-- ==== Sys2Proof/Word.lean ====
section
/-!
DEFINITION. The two bit-vector types of the block: a byte, and a host word.
-/

namespace Sys2Proof

/-- Eight bits: a checksum, a register address, a byte on the wire (R11, R13). -/
abbrev Byte := BitVec 8

/-- Thirty-two bits: a host register, or a command word (R12, R76). -/
abbrev Word := BitVec 32

end Sys2Proof
end

