-- ==== Sys2Proof/Syntax.lean ====
section
/-!
DEFINITION. The commands of the block, one constructor per row of the opcode map (R82), and the fields of a
command word (R76, R77).
-/

namespace Sys2Proof

/-- Width of a Register Descriptor: 8 or 16 bits (R11). -/
inductive Width where
  | w8
  | w16
deriving DecidableEq, Repr, Inhabited

/-- Signedness of a Register Descriptor (R14). -/
inductive Signedness where
  | unsigned
  | signed
deriving DecidableEq, Repr, Inhabited

/-- The 22 commands (R82). Operands are bytes, used as they stand (R79). -/
inductive Instr where
  | crcb (seed data : Byte)
  | crca (reg : Byte)
  | crcd (data : Byte)
  | enc8u
  | enc8s
  | enc16u
  | enc16s
  | dec8u
  | dec8s
  | dec16u
  | dec16s
  | dec24u
  | wr8u (reg : Byte)
  | wr8s (reg : Byte)
  | wr16u (reg : Byte)
  | wr16s (reg : Byte)
  | rd8u (reg : Byte)
  | rd8s (reg : Byte)
  | rd16u (reg : Byte)
  | rd16s (reg : Byte)
  | rdver (reg : Byte)
  | rdupt (reg : Byte)
deriving DecidableEq, Repr, Inhabited

/-- The operations that the field `OP` selects (R77). -/
inductive Op where
  | crcb
  | crca
  | crcd
  | enc
  | dec
  | dec24
  | wr
  | rd
  | rdver
  | rdupt
deriving DecidableEq, Repr

/-- A command word cut into its fields, low field first (R76). -/
structure Fields where
  op   : BitVec 4
  s    : BitVec 1
  w    : BitVec 1
  rsv  : BitVec 2
  reg  : Byte
  immA : Byte
  immB : Byte
deriving DecidableEq, Repr

end Sys2Proof
end

