-- ==== Sys2Proof/WellFormed.lean ====
section
/-!
DEFINITION. Which fields a command uses, and the check that every other field is zero (R78, R83).
-/

namespace Sys2Proof

/-- The values of `OP` (R77); `none` for the reserved ones. -/
def Op.ofCode (c : BitVec 4) : Option Op :=
  if c = 0x1#4 then some .crcb
  else if c = 0x2#4 then some .crca
  else if c = 0x3#4 then some .crcd
  else if c = 0x4#4 then some .enc
  else if c = 0x5#4 then some .dec
  else if c = 0x6#4 then some .dec24
  else if c = 0x7#4 then some .wr
  else if c = 0x8#4 then some .rd
  else if c = 0x9#4 then some .rdver
  else if c = 0xA#4 then some .rdupt
  else none

/-- Whether each field may be nonzero: one row of the table of R78. -/
structure FieldUse where
  s    : Bool
  w    : Bool
  reg  : Bool
  immA : Bool
  immB : Bool
deriving DecidableEq, Repr

/-- The table of R78. -/
def Op.fieldUse : Op → FieldUse
  | .crcb  => { s := false, w := false, reg := false, immA := true,  immB := true }
  | .crca  => { s := false, w := false, reg := true,  immA := false, immB := false }
  | .crcd  => { s := false, w := false, reg := false, immA := true,  immB := false }
  | .enc   => { s := true,  w := true,  reg := false, immA := false, immB := false }
  | .dec   => { s := true,  w := true,  reg := false, immA := false, immB := false }
  | .dec24 => { s := false, w := false, reg := false, immA := false, immB := false }
  | .wr    => { s := true,  w := true,  reg := true,  immA := false, immB := false }
  | .rd    => { s := true,  w := true,  reg := true,  immA := false, immB := false }
  | .rdver => { s := false, w := false, reg := true,  immA := false, immB := false }
  | .rdupt => { s := false, w := false, reg := true,  immA := false, immB := false }

/-- Why a word spells no command (R83). -/
inductive Illegal where
  /-- `OP` is 0x0 or 0xB..0xF. -/
  | reservedOp
  /-- `RSV` is not zero. -/
  | reservedBits
  /-- `S` is not zero where the operation has no signedness. -/
  | signedness
  /-- `W` is not zero where the operation has no width. -/
  | width
  /-- `REG` is not zero where the operation has no register address. -/
  | reg
  /-- `IMM_A` is not zero where the operation has no such immediate. -/
  | immA
  /-- `IMM_B` is not zero where the operation has no such immediate. -/
  | immB
deriving DecidableEq, Repr

/-- The operation the fields spell, or the first reason they spell none (R78, R83). -/
def Fields.check (f : Fields) : Except Illegal Op :=
  match Op.ofCode f.op with
  | none => .error .reservedOp
  | some o =>
    if f.rsv ≠ 0 then .error .reservedBits
    else if o.fieldUse.s = false ∧ f.s ≠ 0 then .error .signedness
    else if o.fieldUse.w = false ∧ f.w ≠ 0 then .error .width
    else if o.fieldUse.reg = false ∧ f.reg ≠ 0 then .error .reg
    else if o.fieldUse.immA = false ∧ f.immA ≠ 0 then .error .immA
    else if o.fieldUse.immB = false ∧ f.immB ≠ 0 then .error .immB
    else .ok o

/-- The fields spell a command. -/
def Fields.wellFormed (f : Fields) : Bool :=
  match f.check with
  | .ok _ => true
  | .error _ => false

end Sys2Proof
end

