-- ==== Sys2Proof/Decode.lean ====
section
/-!
DEFINITION. The decoder, total on any word and rejecting by name, the encoder, the opcode map with its masks
(R76 to R85), and the assembler's mnemonics and operands (R86).
-/

namespace Sys2Proof

/-- The fields of a word (R76). -/
def Fields.ofWord (w : Word) : Fields where
  op   := w.extractLsb' 0 4
  s    := w.extractLsb' 4 1
  w    := w.extractLsb' 5 1
  rsv  := w.extractLsb' 6 2
  reg  := w.extractLsb' 8 8
  immA := w.extractLsb' 16 8
  immB := w.extractLsb' 24 8

/-- The word with these fields, high field first (R76). -/
def Fields.toWord (f : Fields) : Word :=
  f.immB ++ f.immA ++ f.reg ++ f.rsv ++ f.w ++ f.s ++ f.op

/-- The variant that `W` and `S` select (R81): the four arguments are 8u, 8s, 16u, 16s. -/
def Fields.variant (f : Fields) (u8 s8 u16 s16 : Instr) : Instr :=
  if f.w = 0 then (if f.s = 0 then u8 else s8) else (if f.s = 0 then u16 else s16)

/-- The command that fields passing the check of R78 spell (R77, R81). -/
def Op.instr (o : Op) (f : Fields) : Instr :=
  match o with
  | .crcb  => .crcb f.immA f.immB
  | .crca  => .crca f.reg
  | .crcd  => .crcd f.immA
  | .enc   => f.variant .enc8u .enc8s .enc16u .enc16s
  | .dec   => f.variant .dec8u .dec8s .dec16u .dec16s
  | .dec24 => .dec24u
  | .wr    => f.variant (.wr8u f.reg) (.wr8s f.reg) (.wr16u f.reg) (.wr16s f.reg)
  | .rd    => f.variant (.rd8u f.reg) (.rd8s f.reg) (.rd16u f.reg) (.rd16s f.reg)
  | .rdver => .rdver f.reg
  | .rdupt => .rdupt f.reg

/-- The command a word spells, or why it spells none (R82, R83). Every command is one word (R85). -/
def decode (w : Word) : Except Illegal Instr :=
  match (Fields.ofWord w).check with
  | .ok o => .ok (o.instr (Fields.ofWord w))
  | .error e => .error e

/-- Fields with every byte operand zero. -/
def Fields.bare (op : BitVec 4) (s w : BitVec 1) : Fields :=
  { op := op, s := s, w := w, rsv := 0, reg := 0, immA := 0, immB := 0 }

/-- The fields of a command: the columns OP, S, W of R82, and its operands where R78 puts them. -/
def Instr.fields : Instr → Fields
  | .crcb seed data => { Fields.bare 0x1#4 0 0 with immA := seed, immB := data }
  | .crca reg  => { Fields.bare 0x2#4 0 0 with reg := reg }
  | .crcd data => { Fields.bare 0x3#4 0 0 with immA := data }
  | .enc8u     => Fields.bare 0x4#4 0 0
  | .enc8s     => Fields.bare 0x4#4 1 0
  | .enc16u    => Fields.bare 0x4#4 0 1
  | .enc16s    => Fields.bare 0x4#4 1 1
  | .dec8u     => Fields.bare 0x5#4 0 0
  | .dec8s     => Fields.bare 0x5#4 1 0
  | .dec16u    => Fields.bare 0x5#4 0 1
  | .dec16s    => Fields.bare 0x5#4 1 1
  | .dec24u    => Fields.bare 0x6#4 0 0
  | .wr8u reg  => { Fields.bare 0x7#4 0 0 with reg := reg }
  | .wr8s reg  => { Fields.bare 0x7#4 1 0 with reg := reg }
  | .wr16u reg => { Fields.bare 0x7#4 0 1 with reg := reg }
  | .wr16s reg => { Fields.bare 0x7#4 1 1 with reg := reg }
  | .rd8u reg  => { Fields.bare 0x8#4 0 0 with reg := reg }
  | .rd8s reg  => { Fields.bare 0x8#4 1 0 with reg := reg }
  | .rd16u reg => { Fields.bare 0x8#4 0 1 with reg := reg }
  | .rd16s reg => { Fields.bare 0x8#4 1 1 with reg := reg }
  | .rdver reg => { Fields.bare 0x9#4 0 0 with reg := reg }
  | .rdupt reg => { Fields.bare 0xA#4 0 0 with reg := reg }

/-- A command is well-formed when its fields pass the check of R78. -/
def Instr.wellFormed (i : Instr) : Bool := i.fields.wellFormed

/-- The word of a command (R76). -/
def encode (i : Instr) : Word := i.fields.toWord

/-- What the decoder reads from the low `nbits` bits of `w`, every bit above them zero; bit 0 is the word's
least significant bit (R13). A command is one host word (R85), so no byte order enters. -/
def decodeTableWord (nbits w : Nat) : Option Instr :=
  match decode (BitVec.ofNat 32 (w % 2 ^ nbits)) with
  | .ok i => some i
  | .error _ => none

/-- One row of the opcode map (R82). -/
structure OpcodeRow where
  mnemonic : String
  pattern  : Word
  mask     : Word
deriving DecidableEq, Repr

/-- A word spells the command of a row (R82). -/
def OpcodeRow.spells (r : OpcodeRow) (w : Word) : Bool := w &&& r.mask == r.pattern

/-- The rows of R82 for the checksum and codec commands. -/
def opcodeMapPure : List OpcodeRow :=
  [⟨"CRCB", 0x00000001, 0x0000FFFF⟩, ⟨"CRCA", 0x00000002, 0xFFFF00FF⟩, ⟨"CRCD", 0x00000003, 0xFF00FFFF⟩,
   ⟨"ENC8U", 0x00000004, 0xFFFFFFFF⟩, ⟨"ENC8S", 0x00000014, 0xFFFFFFFF⟩,
   ⟨"ENC16U", 0x00000024, 0xFFFFFFFF⟩, ⟨"ENC16S", 0x00000034, 0xFFFFFFFF⟩,
   ⟨"DEC8U", 0x00000005, 0xFFFFFFFF⟩, ⟨"DEC8S", 0x00000015, 0xFFFFFFFF⟩,
   ⟨"DEC16U", 0x00000025, 0xFFFFFFFF⟩, ⟨"DEC16S", 0x00000035, 0xFFFFFFFF⟩,
   ⟨"DEC24U", 0x00000006, 0xFFFFFFFF⟩]

/-- The rows of R82 for the transaction commands. -/
def opcodeMapTransactions : List OpcodeRow :=
  [⟨"WR8U", 0x00000007, 0xFFFF00FF⟩, ⟨"WR8S", 0x00000017, 0xFFFF00FF⟩,
   ⟨"WR16U", 0x00000027, 0xFFFF00FF⟩, ⟨"WR16S", 0x00000037, 0xFFFF00FF⟩,
   ⟨"RD8U", 0x00000008, 0xFFFF00FF⟩, ⟨"RD8S", 0x00000018, 0xFFFF00FF⟩,
   ⟨"RD16U", 0x00000028, 0xFFFF00FF⟩, ⟨"RD16S", 0x00000038, 0xFFFF00FF⟩,
   ⟨"RDVER", 0x00000009, 0xFFFF00FF⟩, ⟨"RDUPT", 0x0000000A, 0xFFFF00FF⟩]

/-- The complete command map (R82). -/
def opcodeMap : List OpcodeRow := opcodeMapPure ++ opcodeMapTransactions

/-- The mnemonic of a command (R86). -/
def Instr.mnemonic : Instr → String
  | .crcb _ _ => "CRCB"
  | .crca _ => "CRCA"
  | .crcd _ => "CRCD"
  | .enc8u => "ENC8U"
  | .enc8s => "ENC8S"
  | .enc16u => "ENC16U"
  | .enc16s => "ENC16S"
  | .dec8u => "DEC8U"
  | .dec8s => "DEC8S"
  | .dec16u => "DEC16U"
  | .dec16s => "DEC16S"
  | .dec24u => "DEC24U"
  | .wr8u _ => "WR8U"
  | .wr8s _ => "WR8S"
  | .wr16u _ => "WR16U"
  | .wr16s _ => "WR16S"
  | .rd8u _ => "RD8U"
  | .rd8s _ => "RD8S"
  | .rd16u _ => "RD16U"
  | .rd16s _ => "RD16S"
  | .rdver _ => "RDVER"
  | .rdupt _ => "RDUPT"

/-- The byte operands of a command, in the assembler's order (R86). -/
def Instr.operands : Instr → List Byte
  | .crcb seed data => [seed, data]
  | .crcd data => [data]
  | .enc8u | .enc8s | .enc16u | .enc16s => []
  | .dec8u | .dec8s | .dec16u | .dec16s | .dec24u => []
  | .crca reg => [reg]
  | .wr8u reg | .wr8s reg | .wr16u reg | .wr16s reg => [reg]
  | .rd8u reg | .rd8s reg | .rd16u reg | .rd16s reg => [reg]
  | .rdver reg | .rdupt reg => [reg]

/-- The command that a mnemonic with its byte operands stands for (R86). -/
def assemble (mnemonic : String) (operands : List Byte) : Option Instr :=
  match mnemonic, operands with
  | "CRCB", [seed, data] => some (.crcb seed data)
  | "CRCA", [reg] => some (.crca reg)
  | "CRCD", [data] => some (.crcd data)
  | "ENC8U", [] => some .enc8u
  | "ENC8S", [] => some .enc8s
  | "ENC16U", [] => some .enc16u
  | "ENC16S", [] => some .enc16s
  | "DEC8U", [] => some .dec8u
  | "DEC8S", [] => some .dec8s
  | "DEC16U", [] => some .dec16u
  | "DEC16S", [] => some .dec16s
  | "DEC24U", [] => some .dec24u
  | "WR8U", [reg] => some (.wr8u reg)
  | "WR8S", [reg] => some (.wr8s reg)
  | "WR16U", [reg] => some (.wr16u reg)
  | "WR16S", [reg] => some (.wr16s reg)
  | "RD8U", [reg] => some (.rd8u reg)
  | "RD8S", [reg] => some (.rd8s reg)
  | "RD16U", [reg] => some (.rd16u reg)
  | "RD16S", [reg] => some (.rd16s reg)
  | "RDVER", [reg] => some (.rdver reg)
  | "RDUPT", [reg] => some (.rdupt reg)
  | _, _ => none

end Sys2Proof
end

