-- ==== Sys2Proof/Config.lean ====
section
/-!
DEFINITION. What is fixed for a run: the Device Handle and the other parameters of R10, with the premises of
R185 in the type; and the free values: the platform's own parameters and the Transport's answers (R62).
-/

namespace Sys2Proof.Config

/-- `VERSION_LAYOUT` (R10, R106): which payload bytes of a version read hold major, minor and patch. Three
distinct indices, as R185 asks: no layout breaks that, so no run has one that does. -/
structure VersionLayout where
  major    : Fin 4 := 0
  minor    : Fin 4 := 1
  patch    : Fin 4 := 2
  distinct : (major != minor && major != patch && minor != patch) = true := by decide
deriving DecidableEq, Repr, Inhabited

/-- The parameters of R10 with the platform's `HOST_BASE` (R47). No step changes them (R9). The bound on `N`
is R185's. -/
structure Handle where
  /-- `BUS_ID`, opaque (R63). -/
  busId : Int := 0
  /-- `DEV_ADDR`, opaque (R63). -/
  devAddr : Int := 0
  /-- `DELAY`, opaque: nothing depends on its value (R192). DESIGN CHOICE: the spec gives a duration no unit and no
  range; here it is a natural number of a unit that is not named (log 22). -/
  delay : Nat := 0
  /-- `N`, the attempt budget of each loop. -/
  maxRetries : Nat := 1
  /-- `VERSION_LAYOUT`. -/
  versionLayout : VersionLayout := {}
  /-- `HOST_BASE`, the address of the host register window (R47). DESIGN CHOICE: the spec gives platform addresses
  no width; here one is a natural number (log 23). -/
  hostBase : Nat := 0
  /-- `1 ≤ N ≤ 255` (R10, R185). -/
  maxRetries_range : 1 ≤ maxRetries ∧ maxRetries ≤ 255 := by decide
deriving DecidableEq, Repr, Inhabited

/-- One answer of the Transport: `TransportError`, or success with the bytes that a block read returns. An
open or a block write that succeeds has no bytes: it takes any `ok` answer as success (R57 to R59). -/
inductive Draw where
  | err
  | ok (bytes : List Byte)
deriving DecidableEq, Repr, Inhabited

/-- FREE VALUE. The parameters of the platform at hand: any that R185 admits (log 1). -/
opaque platform : Handle

/-- FREE VALUE. The Transport's `n`-th answer: any draw at all (R62, log 2). -/
opaque freeDraw : Nat → Draw

/-- FREE VALUE. What an accepted RDVER or RDUPT leaves in `T_W` and `T_S`: R128 gives them no value there
(log 12). -/
opaque unusedLatches : Nat → Width × Signedness

end Sys2Proof.Config
end

