-- ==== Sys2Proof/Machine/State.lean ====
section
/-!
DEFINITION. The state of the machine: every element of R21, the configuration, the event history (R64), and what
the other two agents are about to do. Reset (R45), and the reasons a step can stop.
-/

namespace Sys2Proof.Machine

open Sys2Proof.Config (Handle Draw)

/-- `STATUS.CODE` (R30). -/
inductive Code where
  | none
  | ok
  | encErr
  | retriesExhausted
  | illegalCmd
deriving DecidableEq, Repr

/-- `STATUS.LASTERR` (R31). -/
inductive LastErr where
  | none
  | transport
  | checksum
  | verify
deriving DecidableEq, Repr

/-- `SEQ_STATE` (R35). -/
inductive SeqState where
  | idle
  | wOpen
  | wWait
  | wXfer
  | wClose
  | rOpen
  | rWait
  | rXfer
  | rClose
deriving DecidableEq, Repr

/-- `T_OP`, the kind of transaction (R36). -/
inductive TxnKind where
  | wr
  | rd
  | rdver
  | rdupt
deriving DecidableEq, Repr

/-- One event of the history (R64): a transport primitive with its answer, or a `Wait`. A read's answer is kept
as the Transport gave it, whatever its length. -/
inductive Event where
  | opened (busId : Int) (ok : Bool)
  | wait (delay : Nat)
  | write (devAddr : Int) (reg : Byte) (bytes : List Byte) (ok : Bool)
  | read (devAddr : Int) (reg : Byte) (count : Nat) (answer : Option (List Byte))
  | close
deriving DecidableEq, Repr

/-- A move of the Host (R71): a read or write of the given width in bits at an offset of the window, `POLL`
(R87), or reset (R182). A write carries its data in a word; only 32-bit writes are admitted (R48). -/
inductive HostMove where
  | read (width offset : Nat)
  | write (width offset : Nat) (v : Word)
  | poll
  | reset
deriving DecidableEq, Repr

/-- Who takes the next step of the total order (R65). -/
inductive Move where
  | sequencer
  | host (m : HostMove)
deriving DecidableEq, Repr

/-- The state. The last four fields and `cfg` are the model's own way to hold what lies outside the block:
the history it has produced, and the inputs of a run (log 1 to 3, 9). -/
structure State where
  /-- The configuration, which no step changes (R9). -/
  cfg : Handle
  /-- `OPND` (R24). -/
  opnd : Word
  /-- `RESULT` (R25). -/
  result : Word
  /-- `STATUS.VALID` (R28). -/
  valid : Bool
  /-- `STATUS.OVR` (R29). -/
  ovr : Bool
  /-- `STATUS.CODE` (R30). -/
  code : Code
  /-- `STATUS.LASTERR` (R31). -/
  lastErr : LastErr
  /-- `STATUS.ATTEMPTS` (R32). -/
  attempts : BitVec 8
  /-- `ACC` (R34). -/
  acc : Byte
  /-- `SEQ_STATE` (R35). -/
  seqState : SeqState
  /-- `T_OP` (R36). -/
  tOp : TxnKind
  /-- `T_REG` (R36). -/
  tReg : Byte
  /-- `T_W` (R36). -/
  tW : Width
  /-- `T_S` (R36). -/
  tS : Signedness
  /-- `T_VAL` (R36). -/
  tVal : Int
  /-- `T_TX` (R36). -/
  tTx : List Byte
  /-- `T_N` (R36). -/
  tN : Nat
  /-- `T_XOK` (R36). -/
  tXok : Bool
  /-- `ATT` (R37). -/
  att : Nat
  /-- `RATT` (R37). -/
  ratt : Nat
  /-- `NESTED` (R38). -/
  nested : Bool
  /-- `SESSION` (R39). -/
  session : Bool
  /-- `RXBUF` (R40). -/
  rxbuf : List Byte
  /-- The event history, oldest first (R64). -/
  history : List Event
  /-- The rest of the run's total order of steps (R65). Empty: the Sequencer moves whenever it can (log 3). -/
  schedule : List Move
  /-- The Transport's coming answers; past their end, free values (R62, log 2). -/
  draws : List Draw
  /-- How many free values have been used (log 2, log 12). -/
  drawCount : Nat
  /-- The word that the last `HostRead` gave to the Host (log 9). -/
  portData : Word
deriving DecidableEq, Repr

/-- Faults: the machine stops. -/
inductive Fault where
  /-- Raised by the Sequencer in `R_CLOSE` alone, where `RXBUF` does not hold `T_N + 1` bytes, or `T_N` is not
  the payload length of the latched transaction. No run from reset reaches such a state, so the spec says
  nothing of it. Safe: the model stops (log 11). -/
  | latchMismatch
deriving DecidableEq, Repr

/-- Refusals: the model gives no step. -/
inductive Refusal where
  /-- The command has no meaning in the model yet. Safe. -/
  | notModelled (mnemonic : String)
  /-- Raised by a host read or write that is not 32 bits wide at one of the five offsets: R48 gives it no step.
  Safe. -/
  | hostAccess
  /-- Raised by a reset while busy: R183 gives it no step. Safe. -/
  | resetWhileBusy
deriving DecidableEq, Repr

/-- What a step answers. -/
abbrev Result := Host.Outcome State Fault Refusal

/-- The machine right after reset (R45). The values of `tOp`, `tW` and `tS` are the model's (log 6); the
configuration is the platform's, and no input is fixed (log 1 to 3). -/
def State.reset : State where
  cfg := Config.platform
  opnd := 0
  result := 0
  valid := false
  ovr := false
  code := .none
  lastErr := .none
  attempts := 0
  acc := 0
  seqState := .idle
  tOp := .wr
  tReg := 0
  tW := .w8
  tS := .unsigned
  tVal := 0
  tTx := []
  tN := 0
  tXok := false
  att := 0
  ratt := 0
  nested := false
  session := false
  rxbuf := []
  history := []
  schedule := []
  draws := []
  drawCount := 0
  portData := 0

end Sys2Proof.Machine
end

