-- ==== Sys2Proof/Machine/Flags.lean ====
section
/-!
DEFINITION. The STATUS register: its fields' codes and its word (R26 to R33).
-/

namespace Sys2Proof.Machine

/-- `STATUS.BUSY`: 1 exactly when the Sequencer is not in `IDLE` (R27). -/
def State.busy (s : State) : Bool := s.seqState != .idle

/-- The value of `CODE` (R30). -/
def Code.bits : Code → BitVec 3
  | .none => 0
  | .ok => 1
  | .encErr => 2
  | .retriesExhausted => 3
  | .illegalCmd => 4

/-- The value of `LASTERR` (R31). -/
def LastErr.bits : LastErr → BitVec 2
  | .none => 0
  | .transport => 1
  | .checksum => 2
  | .verify => 3

/-- One bit of a word. -/
def flagBit (b : Bool) : BitVec 1 := if b = true then 1 else 0

/-- The STATUS word, high field first, its reserved bits 0 (R26, R33). -/
def State.statusWord (s : State) : Word :=
  0#8 ++ s.attempts ++ 0#6 ++ s.lastErr.bits ++ 0#1 ++ s.code.bits ++ 0#1 ++
    flagBit s.ovr ++ flagBit s.valid ++ flagBit s.busy

end Sys2Proof.Machine
end

