-- ==== Sys2Proof/Machine/Ops.lean ====
section
/-!
DEFINITION. The shared operations: completion (R18, R144), acceptance (R128), the Transport's primitives with
their events (R17, R57 to R64), the host registers (R47 to R49) and reset (R182). The block has no trap, so
completion stands where a processor's exception entry would (R162, R173).
-/

namespace Sys2Proof.Machine

open Sys2Proof.Config (Draw)

/-- `complete(code, result, valid)` (R18). -/
def State.complete (c : Code) (r : Word) (v : Bool) (s : State) : State :=
  { s with code := c, result := r, valid := v, seqState := .idle }

/-- `complete` at the end of a transaction (R144). -/
def State.completeTransaction (c : Code) (r : Word) (v : Bool) (s : State) : State :=
  { s.complete c r v with att := 0, ratt := 0, nested := false }

/-- What acceptance clears before a command runs (R128). -/
def State.cleared (s : State) : State :=
  { s with ovr := false, code := .none, valid := false, lastErr := .none, attempts := 0, result := 0 }

/-- `Accept` (R128): a busy block rejects the command and sets `OVR`; else it is cleared and the command runs. -/
def State.accept (body : State → State) (s : State) : Result :=
  if s.busy = true then .next { s with ovr := true } else .next (body s.cleared)

/-- The Transport's next answer: the first one already fixed, or past their end a free value (R62). -/
def State.draw (s : State) : Draw × State :=
  match s.draws with
  | d :: rest => (d, { s with draws := rest })
  | [] => (Config.freeDraw s.drawCount, { s with drawCount := s.drawCount + 1 })

/-- Whether an answer is a success. -/
def drawOk : Draw → Bool
  | .ok _ => true
  | .err => false

/-- The bytes of an answer to a block read; `none` is `TransportError` (R59). -/
def drawBytes : Draw → Option (List Byte)
  | .ok bytes => some bytes
  | .err => none

/-- Append an event to the history (R64). -/
def State.record (s : State) (e : Event) : State := { s with history := s.history ++ [e] }

/-- `T_Open(BUS_ID)` (R57). -/
def State.tOpen (s : State) : Bool × State :=
  (drawOk s.draw.1, s.draw.2.record (.opened s.cfg.busId (drawOk s.draw.1)))

/-- `Wait(DELAY)` (R61). -/
def State.wait (s : State) : State := s.record (.wait s.cfg.delay)

/-- `T_WriteBlock(DEV_ADDR, reg, bytes)` (R58). -/
def State.tWriteBlock (s : State) (reg : Byte) (bytes : List Byte) : Bool × State :=
  (drawOk s.draw.1, s.draw.2.record (.write s.cfg.devAddr reg bytes (drawOk s.draw.1)))

/-- `T_ReadBlock(DEV_ADDR, reg, count)` (R59). -/
def State.tReadBlock (s : State) (reg : Byte) (count : Nat) : Option (List Byte) × State :=
  (drawBytes s.draw.1, s.draw.2.record (.read s.cfg.devAddr reg count (drawBytes s.draw.1)))

/-- `T_Close()`, which always succeeds (R60), with the session it ends (R39). -/
def State.tClose (s : State) : State := { s.record .close with session := false }

/-- The host registers (R47). -/
inductive HostReg where
  | cmd
  | opnd
  | result
  | status
  | acc
deriving DecidableEq, Repr

/-- The register at an offset of the window; `none` at the reserved offsets and between words (R47, R48). -/
def hostReg (offset : Nat) : Option HostReg :=
  if offset = 0x00 then some .cmd
  else if offset = 0x04 then some .opnd
  else if offset = 0x08 then some .result
  else if offset = 0x0C then some .status
  else if offset = 0x10 then some .acc
  else none

/-- The register that an access reaches; `none` where the access is not admitted (R48). -/
def admitted (width offset : Nat) : Option HostReg := if width = 32 then hostReg offset else none

/-- What a read of a host register returns (R23 to R26, R34). -/
def State.readReg (s : State) : HostReg → Word
  | .cmd => 0
  | .opnd => s.opnd
  | .result => s.result
  | .status => s.statusWord
  | .acc => s.acc.setWidth 32

/-- The offset in the window that a platform address falls on; `none` outside the 32 bytes from `HOST_BASE`
(R47). -/
def windowOffset (c : Config.Handle) (address : Nat) : Option Nat :=
  if c.hostBase ≤ address ∧ address < c.hostBase + 32 then some (address - c.hostBase) else none

/-- Every element of the block at its reset value. The configuration, the history and the inputs of the run are
no state of the block and stay (R21, R182). -/
def State.resetBlock (s : State) : State :=
  { State.reset with
    cfg := s.cfg, history := s.history, schedule := s.schedule, draws := s.draws,
    drawCount := s.drawCount, portData := s.portData }

/-- Reset, which the Host may assert only while the block is not busy (R182, R183). -/
def State.assertReset (s : State) : Result :=
  if s.busy = true then .refused .resetWhileBusy else .next s.resetBlock

end Sys2Proof.Machine
end

