-- ==== Sys2Proof/Machine/ChecksumCommands.lean ====
section
/-!
DEFINITION. The meanings of CRCB, CRCA and CRCD (R98 to R100).
-/

namespace Sys2Proof.Machine

/-- CRCB (R98): the checksum of one byte; `ACC` takes no part. -/
def execCrcb (seed data : Byte) (s : State) : Result :=
  s.accept fun t => t.complete .ok ((crcFold seed data).setWidth 32) true

/-- Put a checksum in `ACC` and in `RESULT` (R99, R100). -/
def State.streamTo (c : Byte) (t : State) : State :=
  { t with acc := c }.complete .ok (c.setWidth 32) true

/-- CRCA (R99): start a streamed checksum with a register address. -/
def execCrca (reg : Byte) (s : State) : Result :=
  s.accept fun t => t.streamTo (crcFold 0x00 reg)

/-- CRCD (R100): fold one byte into the streamed checksum. -/
def execCrcd (data : Byte) (s : State) : Result :=
  s.accept fun t => t.streamTo (crcFold t.acc data)

end Sys2Proof.Machine
end

