-- ==== Sys2Proof/Machine/Operands.lean ====
section
/-!
DEFINITION. The operand forms of `OPND` (R80) and the Value Codec (R101 to R108): encode, decode, and the
placement of wire bytes and decoded values in a host word (R55, R142).
-/

namespace Sys2Proof.Machine

/-- The value form of `OPND`: `sint_32(OPND)` (R80). -/
def State.opndValue (s : State) : Int := s.opnd.toInt

/-- The byte form of `OPND`: wire byte `k` (R24, R80). -/
def State.opndByte (s : State) (k : Nat) : Byte := s.opnd.extractLsb' (8 * k) 8

/-- The payload length of a width, in bytes (R36). -/
def payloadBytes : Width → Nat
  | .w8 => 1
  | .w16 => 2

/-- The least value of a width and signedness (R101). -/
def minValue : Width → Signedness → Int
  | .w8,  .unsigned => 0
  | .w8,  .signed   => -128
  | .w16, .unsigned => 0
  | .w16, .signed   => -32768

/-- The greatest value of a width and signedness (R101). -/
def maxValue : Width → Signedness → Int
  | .w8,  .unsigned => 255
  | .w8,  .signed   => 127
  | .w16, .unsigned => 65535
  | .w16, .signed   => 32767

/-- The wire bytes of a value, little-endian: its two's-complement pattern, cut to the width (R52, R101). -/
def wireBytes (w : Width) (v : Int) : List Byte :=
  match w with
  | .w8 => [BitVec.ofInt 8 v]
  | .w16 => [(BitVec.ofInt 16 v).extractLsb' 0 8, (BitVec.ofInt 16 v).extractLsb' 8 8]

/-- `Encode_W(S, v)`; `none` is `EncodingError` (R101, R102). -/
def encodeValue (w : Width) (sg : Signedness) (v : Int) : Option (List Byte) :=
  if minValue w sg ≤ v ∧ v ≤ maxValue w sg then some (wireBytes w v) else none

/-- A pattern read as an integer, by signedness (R14). -/
def readPattern {k : Nat} (sg : Signedness) (b : BitVec k) : Int :=
  match sg with
  | .unsigned => b.toNat
  | .signed => b.toInt

/-- A pattern extended to a host word, by signedness (R14, R142). -/
def extendPattern {k : Nat} (sg : Signedness) (b : BitVec k) : Word :=
  match sg with
  | .unsigned => b.setWidth 32
  | .signed => b.signExtend 32

/-- `Decode_W(S, p)` (R103, R104); `none` where `p` is not a payload of that width. -/
def decodeValue (w : Width) (sg : Signedness) (p : List Byte) : Option Int :=
  match w, p with
  | .w8,  [b0]     => some (readPattern sg b0)
  | .w16, [b0, b1] => some (readPattern sg (b1 ++ b0))
  | _, _ => none

/-- The decoded value as a host word (R115 to R118, R142); `none` where `p` is not a payload of that width. -/
def decodeWord (w : Width) (sg : Signedness) (p : List Byte) : Option Word :=
  match w, p with
  | .w8,  [b0]     => some (extendPattern sg b0)
  | .w16, [b0, b1] => some (extendPattern sg (b1 ++ b0))
  | _, _ => none

/-- `Decode_uptime` (R105). -/
def decodeUptime (b0 b1 b2 : Byte) : Nat := b0.toNat + 256 * b1.toNat + 65536 * b2.toNat

/-- The uptime counter as a host word (R119, R142). -/
def uptimeWord (b0 b1 b2 : Byte) : Word := BitVec.ofNat 32 (decodeUptime b0 b1 b2)

/-- The payload byte at an index (R106). -/
def payloadByte (p0 p1 p2 p3 : Byte) (i : Fin 4) : Byte :=
  if i = 0 then p0 else if i = 1 then p1 else if i = 2 then p2 else p3

/-- `Decode_version` of a 4-byte payload (R106); `none` where `p` is not 4 bytes. -/
def decodeVersion (l : Config.VersionLayout) (p : List Byte) : Option (Byte × Byte × Byte) :=
  match p with
  | [p0, p1, p2, p3] =>
    some (payloadByte p0 p1 p2 p3 l.major, payloadByte p0 p1 p2 p3 l.minor, payloadByte p0 p1 p2 p3 l.patch)
  | _ => none

/-- The version triplet as a host word: `{0x00, major, minor, patch}` (R142). -/
def versionWord (v : Byte × Byte × Byte) : Word := 0x00#8 ++ v.1 ++ v.2.1 ++ v.2.2

/-- Wire bytes placed little-endian in a host word, the rest zero (R55). -/
def placeBytes : List Byte → Word
  | [] => 0
  | b :: rest => b.setWidth 32 ||| (placeBytes rest <<< 8)

/-- `Value(T_OP, p)` (R142) for a transaction of this kind, width and signedness; `none` where `p` is not a
payload of that transaction. A write has no value; its read-back is decoded by R143. -/
def readValue (kind : TxnKind) (w : Width) (sg : Signedness) (l : Config.VersionLayout) (p : List Byte) :
    Option Word :=
  match kind, p with
  | .wr, _ => none
  | .rd, p => decodeWord w sg p
  | .rdver, p => (decodeVersion l p).map versionWord
  | .rdupt, [p0, p1, p2, _] => some (uptimeWord p0 p1 p2)
  | .rdupt, _ => none

end Sys2Proof.Machine
end

