-- ==== Sys2Proof/Machine/CodecCommands.lean ====
section
/-!
DEFINITION. The meanings of the encode and decode commands (R111 to R119).
-/

namespace Sys2Proof.Machine

/-- Encode the value in `OPND` and complete (R111 to R114). -/
def State.encodeOpnd (w : Width) (sg : Signedness) (t : State) : State :=
  match encodeValue w sg t.opndValue with
  | some bytes => t.complete .ok (placeBytes bytes) true
  | none => t.complete .encErr 0 false

/-- ENC8U (R111). -/
def execEnc8u (s : State) : Result := s.accept (State.encodeOpnd .w8 .unsigned)

/-- ENC8S (R112). -/
def execEnc8s (s : State) : Result := s.accept (State.encodeOpnd .w8 .signed)

/-- ENC16U (R113). -/
def execEnc16u (s : State) : Result := s.accept (State.encodeOpnd .w16 .unsigned)

/-- ENC16S (R114). -/
def execEnc16s (s : State) : Result := s.accept (State.encodeOpnd .w16 .signed)

/-- Complete with the decoded 8-bit pattern of wire byte 0 of `OPND` (R115, R116). -/
def State.decodeOpnd8 (sg : Signedness) (t : State) : State :=
  t.complete .ok (extendPattern sg (t.opndByte 0)) true

/-- Complete with the decoded 16-bit pattern of wire bytes 0 and 1 of `OPND` (R117, R118). -/
def State.decodeOpnd16 (sg : Signedness) (t : State) : State :=
  t.complete .ok (extendPattern sg (t.opndByte 1 ++ t.opndByte 0)) true

/-- DEC8U (R115). -/
def execDec8u (s : State) : Result := s.accept (State.decodeOpnd8 .unsigned)

/-- DEC8S (R116). -/
def execDec8s (s : State) : Result := s.accept (State.decodeOpnd8 .signed)

/-- DEC16U (R117). -/
def execDec16u (s : State) : Result := s.accept (State.decodeOpnd16 .unsigned)

/-- DEC16S (R118). -/
def execDec16s (s : State) : Result := s.accept (State.decodeOpnd16 .signed)

/-- DEC24U (R119). -/
def execDec24u (s : State) : Result :=
  s.accept fun t => t.complete .ok (uptimeWord (t.opndByte 0) (t.opndByte 1) (t.opndByte 2)) true

end Sys2Proof.Machine
end

