-- ==== Sys2Proof/Machine/TransactionCommands.lean ====
section
/-!
DEFINITION. The meanings of the transaction commands (R129, R130, R152 to R161): what the accepting step does.
The Sequencer's steps that follow are in Sequencer.lean.
-/

namespace Sys2Proof.Machine

/-- `StartWrite` (R129): the encode check, then the latches. -/
def State.startWrite (w : Width) (sg : Signedness) (reg : Byte) (t : State) : State :=
  match encodeValue w sg t.opndValue with
  | none => t.complete .encErr 0 false
  | some e =>
    { t with
      tOp := .wr, tReg := reg, tW := w, tS := sg, tVal := t.opndValue,
      tTx := e ++ [crcOver reg e], tN := payloadBytes w,
      att := 1, attempts := 1, ratt := 0, nested := false, seqState := .wOpen }

/-- `StartRead` (R130) with the latches for width and signedness left to the caller. -/
def State.startLoop (kind : TxnKind) (n : Nat) (reg : Byte) (t : State) : State :=
  { t with
    tOp := kind, tReg := reg, tN := n,
    ratt := 1, attempts := 1, att := 0, nested := false, seqState := .rOpen }

/-- `StartRead(RD, W, S, reg)` (R130). -/
def State.startRead (w : Width) (sg : Signedness) (reg : Byte) (t : State) : State :=
  { t.startLoop .rd (payloadBytes w) reg with tW := w, tS := sg }

/-- `StartRead(kind, -, -, reg)` (R130) of a special read: the spec gives `T_W` and `T_S` no value, so each is a
free value (log 12). -/
def State.startSpecial (kind : TxnKind) (reg : Byte) (t : State) : State :=
  { t.startLoop kind 4 reg with
    tW := (Config.unusedLatches t.drawCount).1, tS := (Config.unusedLatches t.drawCount).2,
    drawCount := t.drawCount + 1 }

/-- WR8U (R152). -/
def execWr8u (reg : Byte) (s : State) : Result := s.accept (State.startWrite .w8 .unsigned reg)

/-- WR8S (R153). -/
def execWr8s (reg : Byte) (s : State) : Result := s.accept (State.startWrite .w8 .signed reg)

/-- WR16U (R154). -/
def execWr16u (reg : Byte) (s : State) : Result := s.accept (State.startWrite .w16 .unsigned reg)

/-- WR16S (R155). -/
def execWr16s (reg : Byte) (s : State) : Result := s.accept (State.startWrite .w16 .signed reg)

/-- RD8U (R156). -/
def execRd8u (reg : Byte) (s : State) : Result := s.accept (State.startRead .w8 .unsigned reg)

/-- RD8S (R157). -/
def execRd8s (reg : Byte) (s : State) : Result := s.accept (State.startRead .w8 .signed reg)

/-- RD16U (R158). -/
def execRd16u (reg : Byte) (s : State) : Result := s.accept (State.startRead .w16 .unsigned reg)

/-- RD16S (R159). -/
def execRd16s (reg : Byte) (s : State) : Result := s.accept (State.startRead .w16 .signed reg)

/-- RDVER (R160). -/
def execRdver (reg : Byte) (s : State) : Result := s.accept (State.startSpecial .rdver reg)

/-- RDUPT (R161). -/
def execRdupt (reg : Byte) (s : State) : Result := s.accept (State.startSpecial .rdupt reg)

end Sys2Proof.Machine
end

