-- ==== Sys2Proof/Machine/Dispatch.lean ====
section
/-!
DEFINITION. The effect of presenting a command to the block (R128), one arm per row of the opcode map (R82).
-/

namespace Sys2Proof.Machine

/-- The effect of a `CMD` write whose word spells the command `i`. -/
def exec (i : Instr) (s : State) : Host.Outcome State Fault Refusal :=
  match i with
  | .crcb seed data => Sys2Proof.Machine.execCrcb seed data s
  | .crca reg => Sys2Proof.Machine.execCrca reg s
  | .crcd data => Sys2Proof.Machine.execCrcd data s
  | .enc8u => Sys2Proof.Machine.execEnc8u s
  | .enc8s => Sys2Proof.Machine.execEnc8s s
  | .enc16u => Sys2Proof.Machine.execEnc16u s
  | .enc16s => Sys2Proof.Machine.execEnc16s s
  | .dec8u => Sys2Proof.Machine.execDec8u s
  | .dec8s => Sys2Proof.Machine.execDec8s s
  | .dec16u => Sys2Proof.Machine.execDec16u s
  | .dec16s => Sys2Proof.Machine.execDec16s s
  | .dec24u => Sys2Proof.Machine.execDec24u s
  | .wr8u reg => Sys2Proof.Machine.execWr8u reg s
  | .wr8s reg => Sys2Proof.Machine.execWr8s reg s
  | .wr16u reg => Sys2Proof.Machine.execWr16u reg s
  | .wr16s reg => Sys2Proof.Machine.execWr16s reg s
  | .rd8u reg => Sys2Proof.Machine.execRd8u reg s
  | .rd8s reg => Sys2Proof.Machine.execRd8s reg s
  | .rd16u reg => Sys2Proof.Machine.execRd16u reg s
  | .rd16s reg => Sys2Proof.Machine.execRd16s reg s
  | .rdver reg => Sys2Proof.Machine.execRdver reg s
  | .rdupt reg => Sys2Proof.Machine.execRdupt reg s

end Sys2Proof.Machine
end

