-- ==== Sys2Proof/Machine/Sequencer.lean ====
section
/-!
DEFINITION. The Sequencer's step relation (R131 to R144): one transport primitive or one `Wait` per step.
-/

namespace Sys2Proof.Machine

/-- WriteAttemptEnd (R141). -/
def State.writeAttemptEnd (s : State) : State :=
  if s.att < s.cfg.maxRetries then
    { s with att := s.att + 1, attempts := BitVec.ofNat 8 (s.att + 1), seqState := .wOpen }
  else s.completeTransaction .retriesExhausted 0 false

/-- ReadFailed (R140). -/
def State.readFailed (s : State) : State :=
  if s.nested = true then { s with nested := false, ratt := 0 }.writeAttemptEnd
  else s.completeTransaction .retriesExhausted 0 false

/-- ReadAttemptEnd (R138). -/
def State.readAttemptEnd (s : State) : State :=
  if s.ratt < s.cfg.maxRetries then
    { s with
      ratt := s.ratt + 1
      attempts := if s.nested = true then s.attempts else BitVec.ofNat 8 (s.ratt + 1)
      seqState := .rOpen }
  else s.readFailed

/-- Write verify of an accepted payload (R143). -/
def State.writeVerify (p : List Byte) (s : State) : Result :=
  match decodeValue s.tW s.tS p with
  | none => .fault .latchMismatch
  | some v =>
    if v = s.tVal then .next (s.completeTransaction .ok 0 false)
    else .next { s with lastErr := .verify, nested := false, ratt := 0 }.writeAttemptEnd

/-- ReadSucceeded (R139). -/
def State.readSucceeded (p : List Byte) (s : State) : Result :=
  if s.nested = true then s.writeVerify p
  else
    match readValue s.tOp s.tW s.tS s.cfg.versionLayout p with
    | none => .fault .latchMismatch
    | some r => .next (s.completeTransaction .ok r true)

/-- A received frame cut into its payload of `n` bytes and its checksum byte (R74). -/
def splitFrame (n : Nat) (rx : List Byte) : Option (List Byte × Byte) :=
  if rx.length = n + 1 then rx[n]?.map fun c => (rx.take n, c) else none

/-- The check of R138, after the close. -/
def State.checkFrame (s : State) : Result :=
  match splitFrame s.tN s.rxbuf with
  | none => .fault .latchMismatch
  | some (p, c) =>
    if crcOver s.tReg p = c then s.readSucceeded p
    else .next { s with lastErr := .checksum }.readAttemptEnd

/-- Step in `W_OPEN` (R131). -/
def stepWOpen (s : State) : Result :=
  if s.tOpen.1 = true then .next { s.tOpen.2 with session := true, seqState := .wWait }
  else .next { s.tOpen.2 with lastErr := .transport }.writeAttemptEnd

/-- Step in `W_WAIT` (R132). -/
def stepWWait (s : State) : Result := .next { s.wait with seqState := .wXfer }

/-- Step in `W_XFER` (R133). -/
def stepWXfer (s : State) : Result :=
  .next { (s.tWriteBlock s.tReg s.tTx).2 with
    tXok := (s.tWriteBlock s.tReg s.tTx).1, seqState := .wClose }

/-- Step in `W_CLOSE` (R134). -/
def stepWClose (s : State) : Result :=
  if s.tXok = true then .next { s.tClose with nested := true, ratt := 1, seqState := .rOpen }
  else .next { s.tClose with lastErr := .transport }.writeAttemptEnd

/-- Step in `R_OPEN` (R135). -/
def stepROpen (s : State) : Result :=
  if s.tOpen.1 = true then .next { s.tOpen.2 with session := true, seqState := .rWait }
  else .next { s.tOpen.2 with lastErr := .transport }.readAttemptEnd

/-- Step in `R_WAIT` (R136). -/
def stepRWait (s : State) : Result := .next { s.wait with seqState := .rXfer }

/-- Take a block read's answer: kept if it has the length asked for, else a failed transfer (R59, R137). -/
def State.takeAnswer (answer : Option (List Byte)) (s : State) : State :=
  match answer with
  | some bytes =>
    if bytes.length = s.tN + 1 then { s with rxbuf := bytes, tXok := true } else { s with tXok := false }
  | none => { s with tXok := false }

/-- Step in `R_XFER` (R137). -/
def stepRXfer (s : State) : Result :=
  .next { (s.tReadBlock s.tReg (s.tN + 1)).2.takeAnswer (s.tReadBlock s.tReg (s.tN + 1)).1 with
    seqState := .rClose }

/-- Step in `R_CLOSE` (R138). -/
def stepRClose (s : State) : Result :=
  if s.tXok = true then s.tClose.checkFrame
  else .next { s.tClose with lastErr := .transport }.readAttemptEnd

/-- The Sequencer's one enabled step; in `IDLE` it has none and nothing happens (R146, log 4). -/
def sequencerStep (s : State) : Result :=
  match s.seqState with
  | .idle => .next s
  | .wOpen => stepWOpen s
  | .wWait => stepWWait s
  | .wXfer => stepWXfer s
  | .wClose => stepWClose s
  | .rOpen => stepROpen s
  | .rWait => stepRWait s
  | .rXfer => stepRXfer s
  | .rClose => stepRClose s

end Sys2Proof.Machine
end

