-- ==== Sys2Proof/Machine/HostPort.lean ====
section
/-!
DEFINITION. The Host's moves (R49, R71): presenting a command word, reading and writing the host registers,
polling, and reset.
-/

namespace Sys2Proof.Machine

/-- A word that spells no command: accepted, it completes with `ILLEGAL_CMD` and does nothing else (R83). -/
def illegalCommand (s : State) : Result := s.accept fun t => t.complete .illegalCmd 0 false

/-- A `CMD` write (R128): the word is decoded and the command runs. -/
def presentCommand (w : Word) (s : State) : Result :=
  match decode w with
  | .ok i => exec i s
  | .error _ => illegalCommand s

/-- `HostRead(offset)`: no state of the block changes; the Host gets the word (R49). -/
def hostRead (width offset : Nat) (s : State) : Result :=
  match admitted width offset with
  | some r => .next { s with portData := s.readReg r }
  | none => .refused .hostAccess

/-- `HostWrite(offset, v)`: `CMD` takes a command, `OPND` stores the word, the read-only registers ignore it
(R49). -/
def hostWrite (width offset : Nat) (v : Word) (s : State) : Result :=
  match admitted width offset with
  | some .cmd => presentCommand v s
  | some .opnd => .next { s with opnd := v }
  | some .result => .next s
  | some .status => .next s
  | some .acc => .next s
  | none => .refused .hostAccess

/-- `POLL` (R87): read STATUS, and again until `BUSY` is 0; between two reads the Sequencer takes a step
(log 5). -/
def hostPoll (s : State) : Result :=
  if s.busy = true then
    .next { s with
      portData := s.readReg .status, schedule := .sequencer :: .host .poll :: s.schedule }
  else .next { s with portData := s.readReg .status }

/-- One move of the Host (R71). -/
def hostStep (m : HostMove) (s : State) : Result :=
  match m with
  | .read width offset => hostRead width offset s
  | .write width offset v => hostWrite width offset v s
  | .poll => hostPoll s
  | .reset => s.assertReset

/-- One move of whichever agent the schedule names next (R65). -/
def moveStep (m : Move) (s : State) : Result :=
  match m with
  | .sequencer => sequencerStep s
  | .host h => hostStep h s

/-- The Host's read of a platform address; `none` outside the block's window (R47). -/
def readAt (c : Config.Handle) (width address : Nat) : Option HostMove :=
  (windowOffset c address).map fun offset => .read width offset

/-- The Host's write of a platform address; `none` outside the block's window (R47). -/
def writeAt (c : Config.Handle) (width address : Nat) (v : Word) : Option HostMove :=
  (windowOffset c address).map fun offset => .write width offset v

end Sys2Proof.Machine
end

