-- ==== Sys2Proof/Machine/Step.lean ====
section
/-!
DEFINITION. One step of the machine: the next move of the run's total order (R65).
-/

namespace Sys2Proof.Machine

/-- One step. The schedule says who moves; past its end the Sequencer does (R65, R146). -/
def step (s : State) : Host.Outcome State Fault Refusal :=
  match s.schedule with
  | [] => sequencerStep s
  | m :: rest => moveStep m { s with schedule := rest }

/-- `s` with the Host about to write the word `w` to `CMD`: commands are presented, not fetched (R70), so this is
where the block gets its next one (log 5). -/
def State.withFetchWord (s : State) (nbits w : Nat) : State :=
  { s with schedule := .host (.write 32 0x00 (BitVec.ofNat 32 (w % 2 ^ nbits))) :: s.schedule }

end Sys2Proof.Machine
end

