-- ==== Sys2Proof/Machine/Algorithm.lean ====
section
/-!
DEFINITION. The transaction algorithm as the source writes it (R120 to R125): the read loop and the write loop as
plain recursions over the attempts, beside which the step relation of Sequencer.lean is held. No step calls them.
-/

namespace Sys2Proof.Machine

open Sys2Proof.Config (Handle Draw)

/-- The Transport's answers still to come: those already fixed, and the index of the next free one (R62). -/
structure Answers where
  fixed : List Draw
  count : Nat
deriving DecidableEq, Repr

/-- The answers a state has before it. -/
def State.answers (s : State) : Answers := { fixed := s.draws, count := s.drawCount }

/-- One answer taken. -/
def Answers.take (a : Answers) : Draw × Answers :=
  match a.fixed with
  | d :: rest => (d, { a with fixed := rest })
  | [] => (Config.freeDraw a.count, { a with count := a.count + 1 })

/-- The check of a received frame (R74, R138): its payload, or the sub-error. -/
def judgeFrame (reg : Byte) (n : Nat) (rx : List Byte) : Except LastErr (List Byte) :=
  match splitFrame n rx with
  | none => .error .transport
  | some (p, c) => if crcOver reg p = c then .ok p else .error .checksum

/-- What one read attempt does: its payload or sub-error, its events, and the answers left. -/
structure AttemptRun where
  outcome : Except LastErr (List Byte)
  events : List Event
  rest : Answers

/-- One attempt of the read loop (R120, R150). -/
def readAttempt (h : Handle) (reg : Byte) (n : Nat) (a : Answers) : AttemptRun :=
  match a.take with
  | (.err, a1) => { outcome := .error .transport, events := [.opened h.busId false], rest := a1 }
  | (.ok _, a1) =>
    match a1.take with
    | (.err, a2) =>
      { outcome := .error .transport
        events := [.opened h.busId true, .wait h.delay, .read h.devAddr reg (n + 1) none, .close]
        rest := a2 }
    | (.ok rx, a2) =>
      { outcome := judgeFrame reg n rx
        events := [.opened h.busId true, .wait h.delay, .read h.devAddr reg (n + 1) (some rx), .close]
        rest := a2 }

/-- What a loop does: the payload it accepted, the attempts it made, the last sub-error, its events, and the
answers left. -/
structure ReadRun where
  payload : Option (List Byte)
  attempts : Nat
  lastErr : LastErr
  events : List Event
  rest : Answers

/-- The read loop (R120) with `left` attempts to go and `made` behind it. -/
def readLoop (h : Handle) (reg : Byte) (n : Nat) : (left made : Nat) → LastErr → Answers → ReadRun
  | 0, made, e, a => { payload := none, attempts := made, lastErr := e, events := [], rest := a }
  | left + 1, made, e, a =>
    let t := readAttempt h reg n a
    match t.outcome with
    | .ok p => { payload := some p, attempts := made + 1, lastErr := e, events := t.events, rest := t.rest }
    | .error e' =>
      let r := readLoop h reg n left (made + 1) e' t.rest
      { r with events := t.events ++ r.events }

/-- What a write attempt or a write loop does. -/
structure WriteRun where
  verified : Bool
  attempts : Nat
  lastErr : LastErr
  events : List Event
  rest : Answers

/-- One attempt of the write loop (R121): the block write, then a complete read loop of the same register, whose
value must be the one written (R125, R143). `made` counts the attempts behind it, `e` is the last sub-error. -/
def writeAttempt (h : Handle) (reg : Byte) (w : Width) (sg : Signedness) (v : Int) (frame : List Byte)
    (made : Nat) (e : LastErr) (a : Answers) : WriteRun :=
  match a.take with
  | (.err, a1) =>
    { verified := false, attempts := made + 1, lastErr := .transport
      events := [.opened h.busId false], rest := a1 }
  | (.ok _, a1) =>
    match a1.take with
    | (.err, a2) =>
      { verified := false, attempts := made + 1, lastErr := .transport
        events := [.opened h.busId true, .wait h.delay, .write h.devAddr reg frame false, .close]
        rest := a2 }
    | (.ok _, a2) =>
      let r := readLoop h reg (payloadBytes w) h.maxRetries 0 e a2
      let sent := [.opened h.busId true, .wait h.delay, .write h.devAddr reg frame true, .close] ++ r.events
      match r.payload with
      | none =>
        { verified := false, attempts := made + 1, lastErr := r.lastErr, events := sent, rest := r.rest }
      | some p =>
        if decodeValue w sg p = some v then
          { verified := true, attempts := made + 1, lastErr := r.lastErr, events := sent, rest := r.rest }
        else
          { verified := false, attempts := made + 1, lastErr := .verify, events := sent, rest := r.rest }

/-- The write loop (R121) with `left` attempts to go and `made` behind it. -/
def writeLoop (h : Handle) (reg : Byte) (w : Width) (sg : Signedness) (v : Int) (frame : List Byte) :
    (left made : Nat) → LastErr → Answers → WriteRun
  | 0, made, e, a => { verified := false, attempts := made, lastErr := e, events := [], rest := a }
  | left + 1, made, e, a =>
    let t := writeAttempt h reg w sg v frame made e a
    if t.verified = true then t
    else
      let r := writeLoop h reg w sg v frame left (made + 1) t.lastErr t.rest
      { r with events := t.events ++ r.events }

end Sys2Proof.Machine
end

