-- ==== Sys2Proof/Machine/Pseudo.lean ====
section
/-!
DEFINITION. The assembler's statements and pseudo-instructions as moves of the Host (R86, R87).
-/

namespace Sys2Proof.Machine

/-- `ST CMD, <word>` for a command (R86). -/
def issue (i : Instr) : Move := .host (.write 32 0x00 (encode i))

/-- `SETV v`: store the two's-complement word of `v` in `OPND` (R87). -/
def setv (v : Int) : Move := .host (.write 32 0x04 (BitVec.ofInt 32 v))

/-- `POLL` (R87). -/
def poll : Move := .host .poll

/-- `CRCOVER reg, b1, ..., bn` (R87). -/
def crcover (reg : Byte) (bytes : List Byte) : List Move :=
  issue (.crca reg) :: bytes.map fun b => issue (.crcd b)

/-- `write_8 reg, v`, by the signedness of the caller's descriptor (R87). -/
def write8 (sg : Signedness) (reg : Byte) (v : Int) : List Move :=
  match sg with
  | .unsigned => [setv v, issue (.wr8u reg), poll]
  | .signed => [setv v, issue (.wr8s reg), poll]

/-- `write_16 reg, v`, always signed (R87). -/
def write16 (reg : Byte) (v : Int) : List Move := [setv v, issue (.wr16s reg), poll]

/-- `read_8 reg`, by the signedness of the caller's descriptor (R87). -/
def read8 (sg : Signedness) (reg : Byte) : List Move :=
  match sg with
  | .unsigned => [issue (.rd8u reg), poll]
  | .signed => [issue (.rd8s reg), poll]

/-- `read_16 reg`, by the signedness of the caller's descriptor (R87). -/
def read16 (sg : Signedness) (reg : Byte) : List Move :=
  match sg with
  | .unsigned => [issue (.rd16u reg), poll]
  | .signed => [issue (.rd16s reg), poll]

/-- `read_version reg` (R87). -/
def readVersion (reg : Byte) : List Move := [issue (.rdver reg), poll]

/-- `read_uptime reg` (R87). -/
def readUptime (reg : Byte) : List Move := [issue (.rdupt reg), poll]

end Sys2Proof.Machine
end

