-- ==== Sys2Proof/Safety.lean ====
section
/-!
DEFINITION. What counts as a good state and a good history: the invariant of the block (R27, R31, R32, R36 to
R44, R188), and the session discipline of the event history (R124, R150).
-/

namespace Sys2Proof.Machine

/-- The states in which a session is open (R43 b). -/
def SeqState.inSession : SeqState → Bool
  | .wWait | .wXfer | .wClose | .rWait | .rXfer | .rClose => true
  | .idle | .wOpen | .rOpen => false

/-- The states of the write loop proper. -/
def SeqState.inWrite : SeqState → Bool
  | .wOpen | .wWait | .wXfer | .wClose => true
  | .idle | .rOpen | .rWait | .rXfer | .rClose => false

/-- The states of the read loop, nested or not. -/
def SeqState.inRead : SeqState → Bool
  | .rOpen | .rWait | .rXfer | .rClose => true
  | .idle | .wOpen | .wWait | .wXfer | .wClose => false

/-- The payload length of a kind of transaction (R36). -/
def payloadOf : TxnKind → Width → Nat
  | .wr, w | .rd, w => payloadBytes w
  | .rdver, _ | .rdupt, _ => 4

/-- The payload length of the latched transaction (R36). -/
def State.payloadLength (s : State) : Nat := payloadOf s.tOp s.tW

/-- The attempt number of the outermost loop (R32). -/
def State.outerAttempt (s : State) : Nat :=
  match s.tOp with
  | .wr => s.att
  | .rd | .rdver | .rdupt => s.ratt

/-- The invariant of every reachable state. -/
structure State.Good (s : State) : Prop where
  /-- R39, R43 (b). -/
  session_iff : s.session = s.seqState.inSession
  /-- R43 (e). -/
  idle_clear : s.seqState = .idle → s.att = 0 ∧ s.ratt = 0 ∧ s.nested = false
  /-- R37, R38 in the write loop. -/
  write_loop : s.seqState.inWrite = true →
    s.tOp = .wr ∧ s.nested = false ∧ s.ratt = 0 ∧ 1 ≤ s.att ∧ s.att ≤ s.cfg.maxRetries
  /-- R37, R38 in the read loop. -/
  read_loop : s.seqState.inRead = true →
    1 ≤ s.ratt ∧ s.ratt ≤ s.cfg.maxRetries ∧ (s.nested = true ↔ s.tOp = .wr)
  /-- R43 (d). -/
  nested_write : s.nested = true → s.tOp = .wr ∧ 1 ≤ s.att ∧ s.att ≤ s.cfg.maxRetries
  /-- R37: no write loop runs beside a top-level read. -/
  top_read : s.seqState.inRead = true → s.nested = false → s.att = 0
  /-- R36: `T_N` fits the latched transaction. -/
  payload_length : s.busy = true → s.tN = s.payloadLength
  /-- R36, R72: `T_TX` is the frame of `T_VAL`. -/
  frame : s.busy = true → s.tOp = .wr →
    ∃ e, encodeValue s.tW s.tS s.tVal = some e ∧ s.tTx = e ++ [crcOver s.tReg e]
  /-- R40: a received frame has the length asked for. -/
  received : s.seqState = .rClose → s.tXok = true → s.rxbuf.length = s.tN + 1
  /-- R188: what the Host sees while a transaction runs. -/
  running : s.busy = true → s.code = .none ∧ s.valid = false ∧ s.result = 0
  /-- R32. -/
  running_attempts : s.busy = true → s.attempts = BitVec.ofNat 8 s.outerAttempt
  /-- R28: a value comes from a success alone. -/
  valid_ok : s.valid = true → s.code = .ok
  /-- R44, R28: no value, no `RESULT`. -/
  no_value : s.valid = false → s.result = 0

/-- Where the bus stands between two events (R124). -/
inductive Phase where
  | closed
  | opened
  | paced
  | transferred
deriving DecidableEq, Repr

/-- The event a phase allows, and the phase after it (R60, R61, R124, R150): an open that fails leaves the bus
closed; one that succeeds is followed by a `Wait`, one transfer, and one `Close`. -/
def Phase.after : Phase → Event → Option Phase
  | .closed, .opened _ ok => some (if ok = true then .opened else .closed)
  | .opened, .wait _ => some .paced
  | .paced, .write _ _ _ _ => some .transferred
  | .paced, .read _ _ _ _ => some .transferred
  | .transferred, .close => some .closed
  | _, _ => none

/-- The phase after a whole history; `none` where some event came out of turn. -/
def phaseOf (h : List Event) : Option Phase :=
  h.foldl (fun p e => p.bind fun q => q.after e) (some .closed)

/-- The phase each state of the Sequencer works in (R131 to R138). -/
def SeqState.phase : SeqState → Phase
  | .idle | .wOpen | .rOpen => .closed
  | .wWait | .rWait => .opened
  | .wXfer | .rXfer => .paced
  | .wClose | .rClose => .transferred

/-- The history keeps the session discipline and stands where the Sequencer does. -/
def State.Disciplined (s : State) : Prop := phaseOf s.history = some s.seqState.phase

/-- `k` steps of the machine, stopping at the first fault or refusal. -/
def runSteps : Nat → State → Result
  | 0, s => .next s
  | k + 1, s =>
    match step s with
    | .next t => runSteps k t
    | .fault r => .fault r
    | .refused r => .refused r

/-- The write command of a descriptor (R81, R82). -/
def writeCommand : Width → Signedness → Byte → Instr
  | .w8,  .unsigned, reg => .wr8u reg
  | .w8,  .signed,   reg => .wr8s reg
  | .w16, .unsigned, reg => .wr16u reg
  | .w16, .signed,   reg => .wr16s reg

/-- The read command of a descriptor (R81, R82). -/
def readCommand : Width → Signedness → Byte → Instr
  | .w8,  .unsigned, reg => .rd8u reg
  | .w8,  .signed,   reg => .rd8s reg
  | .w16, .unsigned, reg => .rd16u reg
  | .w16, .signed,   reg => .rd16s reg

/-- `s` after an accepted command that completed at once (R18, R128): the six fields a completion writes, and
nothing else. -/
def State.completedAs (s : State) (c : Code) (r : Word) (v : Bool) : State :=
  { s with
    ovr := false, code := c, valid := v, lastErr := .none, attempts := 0, result := r, seqState := .idle }

/-- `s` after its running transaction has ended with an outcome (R144): the outcome, the diagnostics, the
history, and the Transport's answers used; the transfer latches `T_XOK` and `RXBUF` are left open. -/
def State.EndsAs (s u : State) (c : Code) (r : Word) (v : Bool) (e : LastErr) (attempts : Nat)
    (events : List Event) (rest : Answers) : Prop :=
  u = { s with
    code := c, result := r, valid := v, lastErr := e, attempts := BitVec.ofNat 8 attempts,
    seqState := .idle, att := 0, ratt := 0, nested := false, session := false,
    history := s.history ++ events, draws := rest.fixed, drawCount := rest.count,
    tXok := u.tXok, rxbuf := u.rxbuf }

end Sys2Proof.Machine
end

