-- ==== Sys2Proof/Certificates/Slice0/Obligations.lean ====
section
/-!
DEFINITION. The statements for the provers, in the order of the spec's files.
-/

open Sys2Proof Sys2Proof.Machine
open Sys2Proof.Config (Draw VersionLayout)

/-! ### The checksum -/

/-- R88: one bit step, in integers; masking after the XOR gives the same. -/
def Obligations.CrcBitStep : Prop :=
  ∀ (acc : Byte) (b : Bool),
    (crcStep acc b).toNat =
      (if (acc.toNat.testBit 7 ^^ b) = true then (acc.toNat <<< 1) % 256 ^^^ 0x31
        else (acc.toNat <<< 1) % 256) ∧
    (crcStep acc b).toNat =
      (if (acc.toNat.testBit 7 ^^ b) = true then ((acc.toNat <<< 1) ^^^ 0x31) % 256
        else (acc.toNat <<< 1) % 256)

/-- R89: the fold is eight bit steps from bit 7 down to bit 0, and equals the source's shift form on every
input. -/
def Obligations.CrcFoldIsShiftForm : Prop :=
  ∀ seed data : Byte,
    crcFold seed data =
      crcStep (crcStep (crcStep (crcStep (crcStep (crcStep (crcStep (crcStep seed
        (data.getLsbD 7)) (data.getLsbD 6)) (data.getLsbD 5)) (data.getLsbD 4))
        (data.getLsbD 3)) (data.getLsbD 2)) (data.getLsbD 1)) (data.getLsbD 0) ∧
    crcFold seed data = crcFoldShift seed data

/-- R90: over starts at 0 with the address and folds each payload byte in order. -/
def Obligations.CrcOverFoldsInOrder : Prop :=
  (∀ a : Byte, crcOver a [] = crcFold 0x00 a) ∧
  (∀ (a : Byte) (p : List Byte) (b : Byte), crcOver a (p ++ [b]) = crcFold (crcOver a p) b)

/-- R93, R97: the seed law, and the table that the spec prints. -/
def Obligations.CrcSeedLawAndTable : Prop :=
  (∀ s d : Byte, crcFold s d = crcFold 0x00 (s ^^^ d) ∧ crcTable[(s ^^^ d).toNat]? = some (crcFold s d)) ∧
  crcTable.length = 256 ∧ ∀ x : Byte, crcTable[x.toNat]? = some (crcFold 0x00 x)

/-- R94: folding from 0 is a bijection, and the last payload byte always shows in the checksum. -/
def Obligations.CrcFoldBijective : Prop :=
  Function.Bijective (crcFold 0x00) ∧
  ∀ (a : Byte) (p : List Byte), Function.Injective fun b => crcOver a (p ++ [b])

/-- R95: a frame leaves the residue 0 exactly when its last byte is its checksum. -/
def Obligations.CrcResidue : Prop :=
  ∀ (a : Byte) (p : List Byte) (c : Byte), crcOver a (p ++ [c]) = 0x00 ↔ c = crcOver a p

/-- R96: the all-zero response passes at address 0 alone, and a change of one byte of the address or of the
payload, a single bit included, changes the checksum. -/
def Obligations.CrcZeroLawAndSensitivity : Prop :=
  (∀ (a : Byte) (n : Nat), crcOver a (List.replicate n 0x00) = 0x00 ↔ a = 0x00) ∧
  (∀ (a a' : Byte) (p : List Byte), a ≠ a' → crcOver a p ≠ crcOver a' p) ∧
  (∀ (a : Byte) (p q : List Byte) (b b' : Byte),
    b ≠ b' → crcOver a (p ++ b :: q) ≠ crcOver a (p ++ b' :: q))

/-! ### The codec -/

/-- R101, R102: the range check and the wire bytes, in integers. -/
def Obligations.EncodeRangeAndBytes : Prop :=
  (∀ v : Int, encodeValue .w8 .unsigned v = none ↔ ¬(0 ≤ v ∧ v ≤ 255)) ∧
  (∀ v : Int, encodeValue .w8 .signed v = none ↔ ¬(-128 ≤ v ∧ v ≤ 127)) ∧
  (∀ v : Int, encodeValue .w16 .unsigned v = none ↔ ¬(0 ≤ v ∧ v ≤ 65535)) ∧
  (∀ v : Int, encodeValue .w16 .signed v = none ↔ ¬(-32768 ≤ v ∧ v ≤ 32767)) ∧
  (∀ sg v p, encodeValue .w8 sg v = some p → ∃ b0 : Byte, p = [b0] ∧ (b0.toNat : Int) = v % 256) ∧
  (∀ sg v p, encodeValue .w16 sg v = some p →
    ∃ b0 b1 : Byte, p = [b0, b1] ∧ (b0.toNat : Int) + 256 * b1.toNat = v % 65536)

/-- R103, R104, R105: the decoders, in integers; total on payloads of their length. -/
def Obligations.DecodeValues : Prop :=
  (∀ b : Byte, decodeValue .w8 .unsigned [b] = some (b.toNat : Int)) ∧
  (∀ b : Byte, decodeValue .w8 .signed [b] =
    some (if b.toNat < 128 then (b.toNat : Int) else (b.toNat : Int) - 256)) ∧
  (∀ b0 b1 : Byte, decodeValue .w16 .unsigned [b0, b1] = some ((b0.toNat : Int) + 256 * b1.toNat)) ∧
  (∀ b0 b1 : Byte, decodeValue .w16 .signed [b0, b1] =
    some (if b0.toNat + 256 * b1.toNat < 32768 then (b0.toNat : Int) + 256 * b1.toNat
      else (b0.toNat : Int) + 256 * b1.toNat - 65536)) ∧
  (∀ b0 b1 b2 : Byte, (uptimeWord b0 b1 b2).toNat = b0.toNat + 256 * b1.toNat + 65536 * b2.toNat ∧
    (uptimeWord b0 b1 b2).toNat ≤ 16777215)

/-- R109: decode and encode are inverse to each other on the range and on the payloads of the width. -/
def Obligations.CodecRoundTrip : Prop :=
  (∀ w sg v p, encodeValue w sg v = some p → p.length = payloadBytes w ∧ decodeValue w sg p = some v) ∧
  (∀ w sg (p : List Byte), p.length = payloadBytes w →
    ∃ v, decodeValue w sg p = some v ∧ encodeValue w sg v = some p)

/-- R110: comparing decoded values is comparing bytes. -/
def Obligations.VerifyByValueIsVerifyByBytes : Prop :=
  ∀ w sg v (e q : List Byte), encodeValue w sg v = some e → q.length = payloadBytes w →
    (decodeValue w sg q = some v ↔ q = e)

/-- R142: the word placed in `RESULT` for each kind of read. -/
def Obligations.ReadValuePlacement : Prop :=
  (∀ (w : Width) (sg : Signedness) (l : VersionLayout) (p : List Byte), p.length = payloadBytes w →
    ∃ v r, decodeValue w sg p = some v ∧ readValue .rd w sg l p = some r ∧
      (sg = .signed → r.toInt = v) ∧ (sg = .unsigned → (r.toNat : Int) = v)) ∧
  (∀ (w : Width) (sg : Signedness) (l : VersionLayout) (p : List Byte), p.length = 4 →
    ∃ (r : Word) (major minor patch : Byte), readValue .rdver w sg l p = some r ∧
      p[l.major.val]? = some major ∧ p[l.minor.val]? = some minor ∧ p[l.patch.val]? = some patch ∧
      r.toNat = 65536 * major.toNat + 256 * minor.toNat + patch.toNat) ∧
  (∀ (w : Width) (sg : Signedness) (l : VersionLayout) (p0 p1 p2 p3 : Byte),
    ∃ r, readValue .rdupt w sg l [p0, p1, p2, p3] = some r ∧
      r.toNat = p0.toNat + 256 * p1.toNat + 65536 * p2.toNat)

/-! ### Encodings -/

/-- R76 to R82: decoding an encoded command gives the command back, whatever its operands. -/
def Obligations.DecodeEncode : Prop :=
  ∀ i : Instr, i.wellFormed = true → decode (encode i) = .ok i

/-- R82, R83: no two rows of the map match one word; a word decodes exactly when some row matches it, to the
command of that row; and it is the word that the encoder gives. -/
def Obligations.DecodeIsOpcodeMap : Prop :=
  (opcodeMap.Pairwise fun r r' => ∀ w : Word, ¬(w &&& r.mask = r.pattern ∧ w &&& r'.mask = r'.pattern)) ∧
  (∀ w : Word, (∃ i, decode w = .ok i) ↔ ∃ r ∈ opcodeMap, w &&& r.mask = r.pattern) ∧
  (∀ (w : Word) (i : Instr), decode w = .ok i →
    ∃ r ∈ opcodeMap, r.mnemonic = i.mnemonic ∧ w &&& r.mask = r.pattern) ∧
  (∀ (w : Word) (i : Instr), decode w = .ok i → encode i = w)

/-- R82: words of the worked examples, one or more of each family, decode to their commands. -/
def Obligations.DecodeSampleWords : Prop :=
  decode 0x34120001 = .ok (.crcb 0x12 0x34) ∧ decode 0x00001102 = .ok (.crca 0x11) ∧
  decode 0x00340003 = .ok (.crcd 0x34) ∧ decode 0x00000034 = .ok .enc16s ∧
  decode 0x00000015 = .ok .dec8s ∧ decode 0x00000006 = .ok .dec24u ∧
  decode 0x00002217 = .ok (.wr8s 0x22) ∧ decode 0x00003027 = .ok (.wr16u 0x30) ∧
  decode 0x00001138 = .ok (.rd16s 0x11) ∧ decode 0x00004009 = .ok (.rdver 0x40) ∧
  decode 0x0000410A = .ok (.rdupt 0x41)

/-- R86: the assembler reads back every mnemonic with its operands. -/
def Obligations.AssemblerReadsMnemonics : Prop :=
  ∀ i : Instr, assemble i.mnemonic i.operands = some i

/-! ### Presenting a command -/

/-- R128: a word written to `CMD` runs as the command it spells, by way of the step; `withFetchWord` is such a
write. The schedule and `withFetchWord` are the model's form (log 3, log 5). -/
def Obligations.StepRunsDecoded : Prop :=
  (∀ (s : State) (rest : List Move) (w : Word) (i : Instr),
    s.schedule = .host (.write 32 0x00 w) :: rest → decode w = .ok i →
    step s = exec i { s with schedule := rest }) ∧
  (∀ (s : State) (w : Word) (i : Instr), decode w = .ok i → step (s.withFetchWord 32 w.toNat) = exec i s)

/-- R128, R187: while the block is busy every command is lost, and only `OVR` records it. -/
def Obligations.BusyRejectsEveryCommand : Prop :=
  ∀ (s : State), s.busy = true →
    (∀ i : Instr, exec i s = .next { s with ovr := true }) ∧
    (∀ w : Word, presentCommand w s = .next { s with ovr := true })

/-- R83: a word no row matches completes at once with `ILLEGAL_CMD` and does nothing else. -/
def Obligations.IllegalWordCompletes : Prop :=
  ∀ (s : State) (w : Word), s.busy = false → (∀ r ∈ opcodeMap, w &&& r.mask ≠ r.pattern) →
    presentCommand w s = .next (s.completedAs .illegalCmd 0 false)

/-- R98: CRCB, its word and its effect. -/
def Obligations.CrcbResult : Prop :=
  (∀ seed data : Byte, decode (data ++ seed ++ 0x0001#16) = .ok (.crcb seed data)) ∧
  ∀ (s : State) (seed data : Byte), s.busy = false →
    exec (.crcb seed data) s = .next (s.completedAs .ok ((crcFold seed data).setWidth 32) true)

/-- R99: CRCA, its word and its effect. -/
def Obligations.CrcaResult : Prop :=
  (∀ reg : Byte, decode (0x0000#16 ++ reg ++ 0x02#8) = .ok (.crca reg)) ∧
  ∀ (s : State) (reg : Byte), s.busy = false →
    exec (.crca reg) s =
      .next { s.completedAs .ok ((crcFold 0x00 reg).setWidth 32) true with acc := crcFold 0x00 reg }

/-- R100: CRCD, its word and its effect. -/
def Obligations.CrcdResult : Prop :=
  (∀ data : Byte, decode (0x00#8 ++ data ++ 0x0003#16) = .ok (.crcd data)) ∧
  ∀ (s : State) (data : Byte), s.busy = false →
    exec (.crcd data) s =
      .next { s.completedAs .ok ((crcFold s.acc data).setWidth 32) true with acc := crcFold s.acc data }

/-- R87, R100: the streamed commands leave the checksum of the address and the bytes, from any idle block. -/
def Obligations.CrcStreamIsOver : Prop :=
  ∀ (s : State) (reg : Byte) (bytes : List Byte) (rest : List Move), s.busy = false →
    s.schedule = crcover reg bytes ++ rest →
    runSteps (1 + bytes.length) s =
      .next { s.completedAs .ok ((crcOver reg bytes).setWidth 32) true with
        acc := crcOver reg bytes, schedule := rest }

/-- R111, R112: ENC8U and ENC8S, their words and their effects. -/
def Obligations.EncodeCommands8 : Prop :=
  decode 0x00000004 = .ok .enc8u ∧ decode 0x00000014 = .ok .enc8s ∧
  ∀ (s : State), s.busy = false →
    exec .enc8u s = .next
      (if 0 ≤ s.opnd.toInt ∧ s.opnd.toInt ≤ 255
        then s.completedAs .ok ((s.opnd.extractLsb' 0 8).setWidth 32) true
        else s.completedAs .encErr 0 false) ∧
    exec .enc8s s = .next
      (if -128 ≤ s.opnd.toInt ∧ s.opnd.toInt ≤ 127
        then s.completedAs .ok ((s.opnd.extractLsb' 0 8).setWidth 32) true
        else s.completedAs .encErr 0 false)

/-- R113, R114: ENC16U and ENC16S, their words and their effects. -/
def Obligations.EncodeCommands16 : Prop :=
  decode 0x00000024 = .ok .enc16u ∧ decode 0x00000034 = .ok .enc16s ∧
  ∀ (s : State), s.busy = false →
    exec .enc16u s = .next
      (if 0 ≤ s.opnd.toInt ∧ s.opnd.toInt ≤ 65535
        then s.completedAs .ok ((s.opnd.extractLsb' 0 16).setWidth 32) true
        else s.completedAs .encErr 0 false) ∧
    exec .enc16s s = .next
      (if -32768 ≤ s.opnd.toInt ∧ s.opnd.toInt ≤ 32767
        then s.completedAs .ok ((s.opnd.extractLsb' 0 16).setWidth 32) true
        else s.completedAs .encErr 0 false)

/-- R115 to R119: DEC8U, DEC8S, DEC16U, DEC16S and DEC24U, their words and their effects. -/
def Obligations.DecodeCommands : Prop :=
  decode 0x00000005 = .ok .dec8u ∧ decode 0x00000015 = .ok .dec8s ∧ decode 0x00000025 = .ok .dec16u ∧
  decode 0x00000035 = .ok .dec16s ∧ decode 0x00000006 = .ok .dec24u ∧
  ∀ (s : State), s.busy = false →
    exec .dec8u s = .next (s.completedAs .ok ((s.opnd.extractLsb' 0 8).setWidth 32) true) ∧
    exec .dec8s s = .next (s.completedAs .ok ((s.opnd.extractLsb' 0 8).signExtend 32) true) ∧
    exec .dec16u s = .next (s.completedAs .ok ((s.opnd.extractLsb' 0 16).setWidth 32) true) ∧
    exec .dec16s s = .next (s.completedAs .ok ((s.opnd.extractLsb' 0 16).signExtend 32) true) ∧
    exec .dec24u s = .next (s.completedAs .ok ((s.opnd.extractLsb' 0 24).setWidth 32) true)

/-- R129: WR8U, WR8S, WR16U and WR16S complete with `ENC_ERR` where the value does not encode; else they latch
the transaction and its frame, and raise BUSY. -/
def Obligations.WriteStarts : Prop :=
  ∀ (s : State) (reg : Byte) (w : Width) (sg : Signedness), s.busy = false →
    exec (writeCommand w sg reg) s =
      match encodeValue w sg s.opnd.toInt with
      | none => .next (s.completedAs .encErr 0 false)
      | some e => .next { s with
          ovr := false, code := .none, valid := false, lastErr := .none, result := 0, attempts := 1,
          tOp := .wr, tReg := reg, tW := w, tS := sg, tVal := s.opnd.toInt, tTx := e ++ [crcOver reg e],
          tN := payloadBytes w, att := 1, ratt := 0, nested := false, seqState := .wOpen }

/-- R152 to R155, the frames: the wire bytes of `OPND` and their checksum. -/
def Obligations.WriteFrameBytes : Prop :=
  ∀ (s t : State) (reg : Byte), s.busy = false →
    ((exec (.wr8u reg) s = .next t ∨ exec (.wr8s reg) s = .next t) → t.busy = true →
      t.tTx = [s.opnd.extractLsb' 0 8, crcOver reg [s.opnd.extractLsb' 0 8]]) ∧
    ((exec (.wr16u reg) s = .next t ∨ exec (.wr16s reg) s = .next t) → t.busy = true →
      t.tTx = [s.opnd.extractLsb' 0 8, s.opnd.extractLsb' 8 8,
        crcOver reg [s.opnd.extractLsb' 0 8, s.opnd.extractLsb' 8 8]])

/-- R129, R164, out of range: WR completes with `ENC_ERR` in the accepting step; BUSY never rises and nothing
reaches the bus. -/
def Obligations.WriteOutOfRange : Prop :=
  ∀ (s : State) (reg : Byte), s.busy = false →
    (¬(0 ≤ s.opnd.toInt ∧ s.opnd.toInt ≤ 255) →
      exec (.wr8u reg) s = .next (s.completedAs .encErr 0 false)) ∧
    (¬(-128 ≤ s.opnd.toInt ∧ s.opnd.toInt ≤ 127) →
      exec (.wr8s reg) s = .next (s.completedAs .encErr 0 false)) ∧
    (¬(0 ≤ s.opnd.toInt ∧ s.opnd.toInt ≤ 65535) →
      exec (.wr16u reg) s = .next (s.completedAs .encErr 0 false)) ∧
    (¬(-32768 ≤ s.opnd.toInt ∧ s.opnd.toInt ≤ 32767) →
      exec (.wr16s reg) s = .next (s.completedAs .encErr 0 false))

/-- R130: RD8U, RD8S, RD16U and RD16S latch the transaction and raise BUSY. -/
def Obligations.ReadStarts : Prop :=
  ∀ (s : State) (reg : Byte) (w : Width) (sg : Signedness), s.busy = false →
    exec (readCommand w sg reg) s =
      .next { s with
        ovr := false, code := .none, valid := false, lastErr := .none, result := 0, attempts := 1,
        tOp := .rd, tReg := reg, tW := w, tS := sg, tN := payloadBytes w,
        ratt := 1, att := 0, nested := false, seqState := .rOpen }

/-- R130: RDVER and RDUPT latch a 4-byte payload and raise BUSY. `T_W` and `T_S`, which R128 gives no value, are
free values, and the counter of free values advances (the model's form, log 12). -/
def Obligations.SpecialReadsStart : Prop :=
  ∀ (s : State) (reg : Byte), s.busy = false →
    exec (.rdver reg) s =
      .next { s with
        ovr := false, code := .none, valid := false, lastErr := .none, result := 0, attempts := 1,
        tOp := .rdver, tReg := reg, tW := (Config.unusedLatches s.drawCount).1,
        tS := (Config.unusedLatches s.drawCount).2, drawCount := s.drawCount + 1,
        tN := 4, ratt := 1, att := 0, nested := false, seqState := .rOpen } ∧
    exec (.rdupt reg) s =
      .next { s with
        ovr := false, code := .none, valid := false, lastErr := .none, result := 0, attempts := 1,
        tOp := .rdupt, tReg := reg, tW := (Config.unusedLatches s.drawCount).1,
        tS := (Config.unusedLatches s.drawCount).2, drawCount := s.drawCount + 1,
        tN := 4, ratt := 1, att := 0, nested := false, seqState := .rOpen }

/-! ### The Sequencer -/

/-- R62: an answer is the next one fixed for the run, or else a free value; the form is the model's (log 2). -/
def Obligations.AnswersAreDraws : Prop :=
  (∀ (s : State) (d : Draw) (rest : List Draw), s.draws = d :: rest →
    s.draw = (d, { s with draws := rest })) ∧
  (∀ (s : State), s.draws = [] →
    s.draw = (Config.freeDraw s.drawCount, { s with drawCount := s.drawCount + 1 }))

/-- R131, R135: the steps that open a session. -/
def Obligations.OpenSteps : Prop :=
  ∀ (s t : State) (d : Draw), s.draw = (d, t) →
    (s.seqState = .wOpen → ∀ bytes, d = .ok bytes →
      sequencerStep s = .next { t with
        history := s.history ++ [.opened s.cfg.busId true], session := true, seqState := .wWait }) ∧
    (s.seqState = .wOpen → d = .err →
      sequencerStep s = .next (State.writeAttemptEnd { t with
        history := s.history ++ [.opened s.cfg.busId false], lastErr := .transport })) ∧
    (s.seqState = .rOpen → ∀ bytes, d = .ok bytes →
      sequencerStep s = .next { t with
        history := s.history ++ [.opened s.cfg.busId true], session := true, seqState := .rWait }) ∧
    (s.seqState = .rOpen → d = .err →
      sequencerStep s = .next (State.readAttemptEnd { t with
        history := s.history ++ [.opened s.cfg.busId false], lastErr := .transport }))

/-- R132, R136: the pacing steps. -/
def Obligations.WaitSteps : Prop :=
  ∀ (s : State),
    (s.seqState = .wWait → sequencerStep s = .next { s with
      history := s.history ++ [.wait s.cfg.delay], seqState := .wXfer }) ∧
    (s.seqState = .rWait → sequencerStep s = .next { s with
      history := s.history ++ [.wait s.cfg.delay], seqState := .rXfer })

/-- R133, R137: the transfers. A read of the wrong length is a failed transfer; that the history keeps the bytes
that came is DEDUCED from R64 and the vectors T4 and T17 (log 21). -/
def Obligations.TransferSteps : Prop :=
  ∀ (s t : State) (d : Draw), s.draw = (d, t) →
    (s.seqState = .wXfer → ∀ bytes, d = .ok bytes →
      sequencerStep s = .next { t with
        history := s.history ++ [.write s.cfg.devAddr s.tReg s.tTx true],
        tXok := true, seqState := .wClose }) ∧
    (s.seqState = .wXfer → d = .err →
      sequencerStep s = .next { t with
        history := s.history ++ [.write s.cfg.devAddr s.tReg s.tTx false],
        tXok := false, seqState := .wClose }) ∧
    (s.seqState = .rXfer → ∀ bytes, d = .ok bytes → bytes.length = s.tN + 1 →
      sequencerStep s = .next { t with
        history := s.history ++ [.read s.cfg.devAddr s.tReg (s.tN + 1) (some bytes)],
        rxbuf := bytes, tXok := true, seqState := .rClose }) ∧
    (s.seqState = .rXfer → ∀ bytes, d = .ok bytes → bytes.length ≠ s.tN + 1 →
      sequencerStep s = .next { t with
        history := s.history ++ [.read s.cfg.devAddr s.tReg (s.tN + 1) (some bytes)],
        tXok := false, seqState := .rClose }) ∧
    (s.seqState = .rXfer → d = .err →
      sequencerStep s = .next { t with
        history := s.history ++ [.read s.cfg.devAddr s.tReg (s.tN + 1) none],
        tXok := false, seqState := .rClose })

/-- R134: the step that closes a write. -/
def Obligations.WriteCloseStep : Prop :=
  ∀ (s : State), s.seqState = .wClose →
    (s.tXok = true → sequencerStep s = .next { s with
      history := s.history ++ [.close], session := false, nested := true, ratt := 1, seqState := .rOpen }) ∧
    (s.tXok = false → sequencerStep s = .next (State.writeAttemptEnd { s with
      history := s.history ++ [.close], session := false, lastErr := .transport }))

/-- R138, R139, R140: the step that closes and checks a read. -/
def Obligations.ReadCloseStep : Prop :=
  ∀ (s : State), s.seqState = .rClose →
    (s.tXok = false → sequencerStep s = .next (State.readAttemptEnd { s with
      history := s.history ++ [.close], session := false, lastErr := .transport })) ∧
    (∀ (p : List Byte) (c : Byte), s.tXok = true → s.rxbuf = p ++ [c] → p.length = s.tN →
      (crcOver s.tReg p ≠ c → sequencerStep s = .next (State.readAttemptEnd { s with
        history := s.history ++ [.close], session := false, lastErr := .checksum })) ∧
      (crcOver s.tReg p = c → s.nested = false →
        ∀ r, readValue s.tOp s.tW s.tS s.cfg.versionLayout p = some r →
        sequencerStep s = .next { s with
          history := s.history ++ [.close], session := false, code := .ok, result := r, valid := true,
          seqState := .idle, att := 0, ratt := 0, nested := false }))

/-- R143: the write verify. -/
def Obligations.WriteVerifyStep : Prop :=
  ∀ (s : State) (p : List Byte) (c : Byte) (v : Int), s.seqState = .rClose → s.tXok = true →
    s.rxbuf = p ++ [c] → p.length = s.tN → crcOver s.tReg p = c → s.nested = true →
    decodeValue s.tW s.tS p = some v →
    (v = s.tVal → sequencerStep s = .next { s with
      history := s.history ++ [.close], session := false, code := .ok, result := 0, valid := false,
      seqState := .idle, att := 0, ratt := 0, nested := false }) ∧
    (v ≠ s.tVal → sequencerStep s = .next (State.writeAttemptEnd { s with
      history := s.history ++ [.close], session := false, lastErr := .verify, nested := false, ratt := 0 }))

/-- R138, R140, R141: how an attempt ends: another one while the budget lasts, else the loop fails; a failed
read-back ends its write attempt. -/
def Obligations.AttemptEnds : Prop :=
  ∀ (s : State),
    (s.att < s.cfg.maxRetries → s.writeAttemptEnd = { s with
      att := s.att + 1, attempts := BitVec.ofNat 8 (s.att + 1), seqState := .wOpen }) ∧
    (s.cfg.maxRetries ≤ s.att → s.writeAttemptEnd = { s with
      code := .retriesExhausted, result := 0, valid := false,
      seqState := .idle, att := 0, ratt := 0, nested := false }) ∧
    (s.ratt < s.cfg.maxRetries → s.nested = false → s.readAttemptEnd = { s with
      ratt := s.ratt + 1, attempts := BitVec.ofNat 8 (s.ratt + 1), seqState := .rOpen }) ∧
    (s.ratt < s.cfg.maxRetries → s.nested = true → s.readAttemptEnd = { s with
      ratt := s.ratt + 1, seqState := .rOpen }) ∧
    (s.cfg.maxRetries ≤ s.ratt → s.nested = false → s.readAttemptEnd = { s with
      code := .retriesExhausted, result := 0, valid := false,
      seqState := .idle, att := 0, ratt := 0, nested := false }) ∧
    (s.cfg.maxRetries ≤ s.ratt → s.nested = true →
      s.readAttemptEnd = State.writeAttemptEnd { s with nested := false, ratt := 0 })

/-! ### The host port and reset -/

/-- R26, R33: the STATUS word, field by field, its reserved bits 0. -/
def Obligations.StatusLayout : Prop :=
  ∀ (s : State),
    s.statusWord.getLsbD 0 = (s.seqState != .idle) ∧ s.statusWord.getLsbD 1 = s.valid ∧
    s.statusWord.getLsbD 2 = s.ovr ∧ s.statusWord.getLsbD 3 = false ∧
    s.statusWord.extractLsb' 4 3 =
      (match s.code with
        | .none => 0 | .ok => 1 | .encErr => 2 | .retriesExhausted => 3 | .illegalCmd => 4) ∧
    s.statusWord.getLsbD 7 = false ∧
    s.statusWord.extractLsb' 8 2 =
      (match s.lastErr with | .none => 0 | .transport => 1 | .checksum => 2 | .verify => 3) ∧
    s.statusWord.extractLsb' 10 6 = 0 ∧ s.statusWord.extractLsb' 16 8 = s.attempts ∧
    s.statusWord.extractLsb' 24 8 = 0

/-- R23 to R26, R34, R47, R49: the admitted reads, and that they change nothing of the block. That the word goes to
`portData` is the model's choice (log 9). -/
def Obligations.HostReads : Prop :=
  ∀ (s : State),
    hostRead 32 0x00 s = .next { s with portData := 0 } ∧
    hostRead 32 0x04 s = .next { s with portData := s.opnd } ∧
    hostRead 32 0x08 s = .next { s with portData := s.result } ∧
    hostRead 32 0x0C s = .next { s with portData := s.statusWord } ∧
    hostRead 32 0x10 s = .next { s with portData := s.acc.setWidth 32 }

/-- R49, R189: the admitted writes. `OPND` takes a write at any time, and no latch of a running transaction
changes; the read-only registers ignore theirs. -/
def Obligations.HostWrites : Prop :=
  ∀ (s : State) (v : Word),
    hostWrite 32 0x00 v s = presentCommand v s ∧
    hostWrite 32 0x04 v s = .next { s with opnd := v } ∧
    hostWrite 32 0x08 v s = .next s ∧ hostWrite 32 0x0C v s = .next s ∧ hostWrite 32 0x10 v s = .next s

/-- R48: an access has a step when it is 32 bits wide at one of the five offsets, and any other has none. -/
def Obligations.HostAccessAdmission : Prop :=
  ∀ (s : State) (width offset : Nat) (v : Word),
    (width = 32 ∧ offset % 4 = 0 ∧ offset ∈ [0x00, 0x04, 0x08, 0x0C, 0x10] →
      (∃ t, hostRead width offset s = .next t) ∧ ∃ t, hostWrite width offset v s = .next t) ∧
    (¬(width = 32 ∧ offset % 4 = 0 ∧ offset ∈ [0x00, 0x04, 0x08, 0x0C, 0x10]) →
      hostRead width offset s = .refused .hostAccess ∧ hostWrite width offset v s = .refused .hostAccess)

/-- R45: the values the spec gives at reset. -/
def Obligations.ResetValues : Prop :=
  let s := State.reset
  s.readReg .cmd = 0 ∧ s.opnd = 0 ∧ s.result = 0 ∧ s.statusWord = 0 ∧ s.acc = 0 ∧
  s.seqState = .idle ∧ s.tReg = 0 ∧ s.tN = 0 ∧
  s.tXok = false ∧ s.tVal = 0 ∧ s.tTx = [] ∧ s.rxbuf = [] ∧ s.att = 0 ∧ s.ratt = 0 ∧ s.nested = false ∧
  s.session = false

/-- R182, R183: reset while not busy puts every element at its reset value, and changes neither configuration
nor history. While busy it has no step: the refusal is DEDUCED from R183 (log 14), the kept history from R21 and
R182 (log 17). -/
def Obligations.ResetMove : Prop :=
  ∀ (s : State),
    (s.busy = false → ∃ t, hostStep .reset s = .next t ∧
      t.readReg .cmd = 0 ∧ t.opnd = 0 ∧ t.result = 0 ∧ t.statusWord = 0 ∧ t.acc = 0 ∧
      t.seqState = .idle ∧ t.tReg = 0 ∧
      t.tN = 0 ∧ t.tXok = false ∧ t.tVal = 0 ∧ t.tTx = [] ∧ t.rxbuf = [] ∧ t.att = 0 ∧ t.ratt = 0 ∧
      t.nested = false ∧ t.session = false ∧ t.cfg = s.cfg ∧ t.history = s.history) ∧
    (s.busy = true → hostStep .reset s = .refused .resetWhileBusy)

/-! ### Every step -/

/-- The reset state is good. -/
def Obligations.GoodAtReset : Prop := State.reset.Good

/-- R27, R32, R36 to R40, R43, R44, R188: every step keeps the invariant. -/
def Obligations.StepKeepsGood : Prop :=
  ∀ (s t : State), s.Good → step s = .next t → t.Good

/-- A good state never faults: a step gives a next state, unless the Host makes a move the spec gives no step
(R48, R183). R146 gives the Sequencer no step in `IDLE`: that its move there answers the same state is the model's
choice (log 4), and so is the Sequencer's move past the end of the schedule (log 3). -/
def Obligations.GoodNeverFaults : Prop :=
  ∀ (s : State), s.Good →
    (∃ t, step s = .next t) ∨
    (∃ width offset rest, admitted width offset = none ∧ step s = .refused .hostAccess ∧
      (s.schedule = .host (.read width offset) :: rest ∨
        ∃ v, s.schedule = .host (.write width offset v) :: rest)) ∨
    (∃ rest, s.schedule = .host .reset :: rest ∧ s.busy = true ∧ step s = .refused .resetWhileBusy)

/-- R184: the reset state stands at the start of a disciplined history; that it is empty there is DEDUCED (log 8). -/
def Obligations.DisciplinedAtReset : Prop := State.reset.Disciplined

/-- R60, R61, R124, R150: every step keeps the session discipline of the history. -/
def Obligations.StepKeepsDiscipline : Prop :=
  ∀ (s t : State), s.Disciplined → step s = .next t → t.Disciplined

/-- R9, R64, R66: no step changes the configuration, and a step adds at most one event to the history and takes
none away; only a Sequencer step adds one. -/
def Obligations.HistoryGrowsByAtMostOne : Prop :=
  ∀ (s t : State), step s = .next t → t.cfg = s.cfg ∧
    (t.history = s.history ∨
      ((s.schedule = [] ∨ ∃ rest, s.schedule = .sequencer :: rest) ∧ s.busy = true ∧
        ∃ e, t.history = s.history ++ [e]))

/-- R34, R41, R182: `ACC` changes only by an accepted CRCA or CRCD, or by reset. -/
def Obligations.AccWrittenByStreamAlone : Prop :=
  (∀ (s t : State) (i : Instr), exec i s = .next t → (∀ b, i ≠ .crca b) → (∀ b, i ≠ .crcd b) →
    t.acc = s.acc) ∧
  (∀ (s t : State), step s = .next t → t.acc ≠ s.acc →
    ∃ m rest, s.schedule = .host m :: rest ∧
      (m = .reset ∨ ∃ w, m = .write 32 0x00 w ∧ s.busy = false ∧
        ((∃ b, decode w = .ok (.crca b)) ∨ ∃ b, decode w = .ok (.crcd b))))

/-- R29, R182: a `CMD` write sets `OVR` while the block is busy and clears it otherwise; nothing else changes it
but reset. -/
def Obligations.OvrWrittenByCommandsAlone : Prop :=
  ∀ (s t : State), step s = .next t →
    (∀ w rest, s.schedule = .host (.write 32 0x00 w) :: rest → t.ovr = s.busy) ∧
    (t.ovr ≠ s.ovr →
      (∃ w rest, s.schedule = .host (.write 32 0x00 w) :: rest) ∨ ∃ rest, s.schedule = .host .reset :: rest)

/-- R36, R126: while a transaction runs no step changes its latches, and nothing but its own completion ends
it. -/
def Obligations.LatchesHeldWhileBusy : Prop :=
  ∀ (s t : State), s.busy = true → step s = .next t →
    t.tOp = s.tOp ∧ t.tReg = s.tReg ∧ t.tW = s.tW ∧ t.tS = s.tS ∧ t.tVal = s.tVal ∧ t.tTx = s.tTx ∧
    t.tN = s.tN ∧
    (∀ m rest, s.schedule = .host m :: rest → t.seqState = s.seqState)

/-- R67: once the block is not busy, its history, `RESULT` and `STATUS` stay as they are through every step but
an accepted command or a reset. -/
def Obligations.OutcomeStandsUntilNextCommand : Prop :=
  ∀ (s t : State), s.busy = false → step s = .next t →
    (∀ v rest, s.schedule ≠ .host (.write 32 0x00 v) :: rest) →
    (∀ rest, s.schedule ≠ .host .reset :: rest) →
    t.history = s.history ∧ t.result = s.result ∧ t.statusWord = s.statusWord

/-! ### Whole transactions -/

/-- R145: a step that ends a transaction leaves `OK` or `RETRIES_EXHAUSTED`, and no step shows a sub-error in
`CODE` while it runs. -/
def Obligations.TransactionEndsByCode : Prop :=
  ∀ (s t : State), s.Good → s.busy = true → step s = .next t →
    (t.busy = true → t.code = .none) ∧
    (t.busy = false → (t.code = .ok ∨ (t.code = .retriesExhausted ∧ t.result = 0 ∧ t.valid = false)))

/-- R149: from any good state with a transaction running, the Sequencer alone brings it to its end, within 4N
steps for a read and N(4 + 4N) for a write. -/
def Obligations.TransactionsTerminate : Prop :=
  ∀ (s : State), s.Good → s.busy = true → s.schedule = [] →
    ∃ k u, k ≤ (if s.tOp = .wr then s.cfg.maxRetries * (4 + 4 * s.cfg.maxRetries) else 4 * s.cfg.maxRetries) ∧
      runSteps k s = .next u ∧ u.busy = false

/-- R120, R122, R147: a read command runs the read loop: with its events, one Sequencer step each, it ends as the
loop ends. -/
def Obligations.ReadRunsReadLoop : Prop :=
  ∀ (s t : State) (i : Instr) (reg : Byte), s.Good → s.busy = false → s.schedule = [] →
    i ∈ [Instr.rd8u reg, .rd8s reg, .rd16u reg, .rd16s reg, .rdver reg, .rdupt reg] →
    exec i s = .next t →
    let r := readLoop s.cfg reg t.tN s.cfg.maxRetries 0 .none t.answers
    ∃ u, runSteps r.events.length t = .next u ∧
      match r.payload with
      | some p => ∃ x, readValue t.tOp t.tW t.tS t.cfg.versionLayout p = some x ∧
          t.EndsAs u .ok x true r.lastErr r.attempts r.events r.rest
      | none => r.attempts = s.cfg.maxRetries ∧
          t.EndsAs u .retriesExhausted 0 false r.lastErr r.attempts r.events r.rest

/-- R121, R125: a write command whose value is in range runs the write loop, read-backs and all. -/
def Obligations.WriteRunsWriteLoop : Prop :=
  ∀ (s t : State) (i : Instr) (reg : Byte), s.Good → s.busy = false → s.schedule = [] →
    i ∈ [Instr.wr8u reg, .wr8s reg, .wr16u reg, .wr16s reg] →
    exec i s = .next t → t.busy = true →
    let r := writeLoop s.cfg reg t.tW t.tS s.opnd.toInt t.tTx s.cfg.maxRetries 0 .none s.answers
    ∃ u, runSteps r.events.length t = .next u ∧
      t.EndsAs u (if r.verified = true then .ok else .retriesExhausted) 0 false
        r.lastErr r.attempts r.events r.rest

/-- R151: under a faithful Transport a write verifies at its first attempt, and a read of the same descriptor then
gives the value back. -/
def Obligations.FaithfulStore : Prop :=
  ∀ (s t : State) (reg : Byte) (w : Width) (sg : Signedness) (e : List Byte) (x1 x2 x3 x4 : List Byte)
    (rest : List Draw), s.Good → s.busy = false → s.schedule = [] →
    encodeValue w sg s.opnd.toInt = some e →
    s.draws = .ok x1 :: .ok x2 :: .ok x3 :: .ok (e ++ [crcOver reg e]) ::
      .ok x4 :: .ok (e ++ [crcOver reg e]) :: rest →
    exec (writeCommand w sg reg) s = .next t →
    ∃ u, runSteps 8 t = .next u ∧ u.busy = false ∧ u.code = .ok ∧ u.attempts = 1 ∧ u.lastErr = .none ∧
      u.history = s.history ++
        [.opened s.cfg.busId true, .wait s.cfg.delay,
         .write s.cfg.devAddr reg (e ++ [crcOver reg e]) true, .close,
         .opened s.cfg.busId true, .wait s.cfg.delay,
         .read s.cfg.devAddr reg (e.length + 1) (some (e ++ [crcOver reg e])), .close] ∧
      ∀ t', exec (readCommand w sg reg) u = .next t' →
        ∃ u', runSteps 4 t' = .next u' ∧ u'.busy = false ∧ u'.code = .ok ∧ u'.valid = true ∧
          (sg = .signed → u'.result.toInt = s.opnd.toInt) ∧
          (sg = .unsigned → (u'.result.toNat : Int) = s.opnd.toInt)
end

