-- ==== Sys2Proof/Laws/State.lean ====
section
/-!
SUPPORT. One lemma per field per named update of the state, so that no later proof unfolds a record update.
-/

namespace Sys2Proof.Machine

@[simp] theorem State.complete_cfg (s : State) (c : Code) (r : Word) (v : Bool) :
    (s.complete c r v).cfg = s.cfg := rfl
@[simp] theorem State.complete_opnd (s : State) (c : Code) (r : Word) (v : Bool) :
    (s.complete c r v).opnd = s.opnd := rfl
@[simp] theorem State.complete_result (s : State) (c : Code) (r : Word) (v : Bool) :
    (s.complete c r v).result = r := rfl
@[simp] theorem State.complete_valid (s : State) (c : Code) (r : Word) (v : Bool) :
    (s.complete c r v).valid = v := rfl
@[simp] theorem State.complete_ovr (s : State) (c : Code) (r : Word) (v : Bool) :
    (s.complete c r v).ovr = s.ovr := rfl
@[simp] theorem State.complete_code (s : State) (c : Code) (r : Word) (v : Bool) : (s.complete c r v).code = c := rfl
@[simp] theorem State.complete_lastErr (s : State) (c : Code) (r : Word) (v : Bool) :
    (s.complete c r v).lastErr = s.lastErr := rfl
@[simp] theorem State.complete_attempts (s : State) (c : Code) (r : Word) (v : Bool) :
    (s.complete c r v).attempts = s.attempts := rfl
@[simp] theorem State.complete_acc (s : State) (c : Code) (r : Word) (v : Bool) :
    (s.complete c r v).acc = s.acc := rfl
@[simp] theorem State.complete_seqState (s : State) (c : Code) (r : Word) (v : Bool) :
    (s.complete c r v).seqState = .idle := rfl
@[simp] theorem State.complete_tOp (s : State) (c : Code) (r : Word) (v : Bool) :
    (s.complete c r v).tOp = s.tOp := rfl
@[simp] theorem State.complete_tReg (s : State) (c : Code) (r : Word) (v : Bool) :
    (s.complete c r v).tReg = s.tReg := rfl
@[simp] theorem State.complete_tW (s : State) (c : Code) (r : Word) (v : Bool) : (s.complete c r v).tW = s.tW := rfl
@[simp] theorem State.complete_tS (s : State) (c : Code) (r : Word) (v : Bool) : (s.complete c r v).tS = s.tS := rfl
@[simp] theorem State.complete_tVal (s : State) (c : Code) (r : Word) (v : Bool) :
    (s.complete c r v).tVal = s.tVal := rfl
@[simp] theorem State.complete_tTx (s : State) (c : Code) (r : Word) (v : Bool) :
    (s.complete c r v).tTx = s.tTx := rfl
@[simp] theorem State.complete_tN (s : State) (c : Code) (r : Word) (v : Bool) : (s.complete c r v).tN = s.tN := rfl
@[simp] theorem State.complete_tXok (s : State) (c : Code) (r : Word) (v : Bool) :
    (s.complete c r v).tXok = s.tXok := rfl
@[simp] theorem State.complete_att (s : State) (c : Code) (r : Word) (v : Bool) :
    (s.complete c r v).att = s.att := rfl
@[simp] theorem State.complete_ratt (s : State) (c : Code) (r : Word) (v : Bool) :
    (s.complete c r v).ratt = s.ratt := rfl
@[simp] theorem State.complete_nested (s : State) (c : Code) (r : Word) (v : Bool) :
    (s.complete c r v).nested = s.nested := rfl
@[simp] theorem State.complete_session (s : State) (c : Code) (r : Word) (v : Bool) :
    (s.complete c r v).session = s.session := rfl
@[simp] theorem State.complete_rxbuf (s : State) (c : Code) (r : Word) (v : Bool) :
    (s.complete c r v).rxbuf = s.rxbuf := rfl
@[simp] theorem State.complete_history (s : State) (c : Code) (r : Word) (v : Bool) :
    (s.complete c r v).history = s.history := rfl
@[simp] theorem State.complete_schedule (s : State) (c : Code) (r : Word) (v : Bool) :
    (s.complete c r v).schedule = s.schedule := rfl
@[simp] theorem State.complete_draws (s : State) (c : Code) (r : Word) (v : Bool) :
    (s.complete c r v).draws = s.draws := rfl
@[simp] theorem State.complete_drawCount (s : State) (c : Code) (r : Word) (v : Bool) :
    (s.complete c r v).drawCount = s.drawCount := rfl
@[simp] theorem State.complete_portData (s : State) (c : Code) (r : Word) (v : Bool) :
    (s.complete c r v).portData = s.portData := rfl

@[simp] theorem State.completeTransaction_cfg (s : State) (c : Code) (r : Word) (v : Bool) :
    (s.completeTransaction c r v).cfg = s.cfg := rfl
@[simp] theorem State.completeTransaction_opnd (s : State) (c : Code) (r : Word) (v : Bool) :
    (s.completeTransaction c r v).opnd = s.opnd := rfl
@[simp] theorem State.completeTransaction_result (s : State) (c : Code) (r : Word) (v : Bool) :
    (s.completeTransaction c r v).result = r := rfl
@[simp] theorem State.completeTransaction_valid (s : State) (c : Code) (r : Word) (v : Bool) :
    (s.completeTransaction c r v).valid = v := rfl
@[simp] theorem State.completeTransaction_ovr (s : State) (c : Code) (r : Word) (v : Bool) :
    (s.completeTransaction c r v).ovr = s.ovr := rfl
@[simp] theorem State.completeTransaction_code (s : State) (c : Code) (r : Word) (v : Bool) :
    (s.completeTransaction c r v).code = c := rfl
@[simp] theorem State.completeTransaction_lastErr (s : State) (c : Code) (r : Word) (v : Bool) :
    (s.completeTransaction c r v).lastErr = s.lastErr := rfl
@[simp] theorem State.completeTransaction_attempts (s : State) (c : Code) (r : Word) (v : Bool) :
    (s.completeTransaction c r v).attempts = s.attempts := rfl
@[simp] theorem State.completeTransaction_acc (s : State) (c : Code) (r : Word) (v : Bool) :
    (s.completeTransaction c r v).acc = s.acc := rfl
@[simp] theorem State.completeTransaction_seqState (s : State) (c : Code) (r : Word) (v : Bool) :
    (s.completeTransaction c r v).seqState = .idle := rfl
@[simp] theorem State.completeTransaction_tOp (s : State) (c : Code) (r : Word) (v : Bool) :
    (s.completeTransaction c r v).tOp = s.tOp := rfl
@[simp] theorem State.completeTransaction_tReg (s : State) (c : Code) (r : Word) (v : Bool) :
    (s.completeTransaction c r v).tReg = s.tReg := rfl
@[simp] theorem State.completeTransaction_tW (s : State) (c : Code) (r : Word) (v : Bool) :
    (s.completeTransaction c r v).tW = s.tW := rfl
@[simp] theorem State.completeTransaction_tS (s : State) (c : Code) (r : Word) (v : Bool) :
    (s.completeTransaction c r v).tS = s.tS := rfl
@[simp] theorem State.completeTransaction_tVal (s : State) (c : Code) (r : Word) (v : Bool) :
    (s.completeTransaction c r v).tVal = s.tVal := rfl
@[simp] theorem State.completeTransaction_tTx (s : State) (c : Code) (r : Word) (v : Bool) :
    (s.completeTransaction c r v).tTx = s.tTx := rfl
@[simp] theorem State.completeTransaction_tN (s : State) (c : Code) (r : Word) (v : Bool) :
    (s.completeTransaction c r v).tN = s.tN := rfl
@[simp] theorem State.completeTransaction_tXok (s : State) (c : Code) (r : Word) (v : Bool) :
    (s.completeTransaction c r v).tXok = s.tXok := rfl
@[simp] theorem State.completeTransaction_att (s : State) (c : Code) (r : Word) (v : Bool) :
    (s.completeTransaction c r v).att = 0 := rfl
@[simp] theorem State.completeTransaction_ratt (s : State) (c : Code) (r : Word) (v : Bool) :
    (s.completeTransaction c r v).ratt = 0 := rfl
@[simp] theorem State.completeTransaction_nested (s : State) (c : Code) (r : Word) (v : Bool) :
    (s.completeTransaction c r v).nested = false := rfl
@[simp] theorem State.completeTransaction_session (s : State) (c : Code) (r : Word) (v : Bool) :
    (s.completeTransaction c r v).session = s.session := rfl
@[simp] theorem State.completeTransaction_rxbuf (s : State) (c : Code) (r : Word) (v : Bool) :
    (s.completeTransaction c r v).rxbuf = s.rxbuf := rfl
@[simp] theorem State.completeTransaction_history (s : State) (c : Code) (r : Word) (v : Bool) :
    (s.completeTransaction c r v).history = s.history := rfl
@[simp] theorem State.completeTransaction_schedule (s : State) (c : Code) (r : Word) (v : Bool) :
    (s.completeTransaction c r v).schedule = s.schedule := rfl
@[simp] theorem State.completeTransaction_draws (s : State) (c : Code) (r : Word) (v : Bool) :
    (s.completeTransaction c r v).draws = s.draws := rfl
@[simp] theorem State.completeTransaction_drawCount (s : State) (c : Code) (r : Word) (v : Bool) :
    (s.completeTransaction c r v).drawCount = s.drawCount := rfl
@[simp] theorem State.completeTransaction_portData (s : State) (c : Code) (r : Word) (v : Bool) :
    (s.completeTransaction c r v).portData = s.portData := rfl

@[simp] theorem State.cleared_cfg (s : State) : s.cleared.cfg = s.cfg := rfl
@[simp] theorem State.cleared_opnd (s : State) : s.cleared.opnd = s.opnd := rfl
@[simp] theorem State.cleared_result (s : State) : s.cleared.result = 0 := rfl
@[simp] theorem State.cleared_valid (s : State) : s.cleared.valid = false := rfl
@[simp] theorem State.cleared_ovr (s : State) : s.cleared.ovr = false := rfl
@[simp] theorem State.cleared_code (s : State) : s.cleared.code = .none := rfl
@[simp] theorem State.cleared_lastErr (s : State) : s.cleared.lastErr = .none := rfl
@[simp] theorem State.cleared_attempts (s : State) : s.cleared.attempts = 0 := rfl
@[simp] theorem State.cleared_acc (s : State) : s.cleared.acc = s.acc := rfl
@[simp] theorem State.cleared_seqState (s : State) : s.cleared.seqState = s.seqState := rfl
@[simp] theorem State.cleared_tOp (s : State) : s.cleared.tOp = s.tOp := rfl
@[simp] theorem State.cleared_tReg (s : State) : s.cleared.tReg = s.tReg := rfl
@[simp] theorem State.cleared_tW (s : State) : s.cleared.tW = s.tW := rfl
@[simp] theorem State.cleared_tS (s : State) : s.cleared.tS = s.tS := rfl
@[simp] theorem State.cleared_tVal (s : State) : s.cleared.tVal = s.tVal := rfl
@[simp] theorem State.cleared_tTx (s : State) : s.cleared.tTx = s.tTx := rfl
@[simp] theorem State.cleared_tN (s : State) : s.cleared.tN = s.tN := rfl
@[simp] theorem State.cleared_tXok (s : State) : s.cleared.tXok = s.tXok := rfl
@[simp] theorem State.cleared_att (s : State) : s.cleared.att = s.att := rfl
@[simp] theorem State.cleared_ratt (s : State) : s.cleared.ratt = s.ratt := rfl
@[simp] theorem State.cleared_nested (s : State) : s.cleared.nested = s.nested := rfl
@[simp] theorem State.cleared_session (s : State) : s.cleared.session = s.session := rfl
@[simp] theorem State.cleared_rxbuf (s : State) : s.cleared.rxbuf = s.rxbuf := rfl
@[simp] theorem State.cleared_history (s : State) : s.cleared.history = s.history := rfl
@[simp] theorem State.cleared_schedule (s : State) : s.cleared.schedule = s.schedule := rfl
@[simp] theorem State.cleared_draws (s : State) : s.cleared.draws = s.draws := rfl
@[simp] theorem State.cleared_drawCount (s : State) : s.cleared.drawCount = s.drawCount := rfl
@[simp] theorem State.cleared_portData (s : State) : s.cleared.portData = s.portData := rfl

@[simp] theorem State.record_cfg (s : State) (e : Event) : (s.record e).cfg = s.cfg := rfl
@[simp] theorem State.record_opnd (s : State) (e : Event) : (s.record e).opnd = s.opnd := rfl
@[simp] theorem State.record_result (s : State) (e : Event) : (s.record e).result = s.result := rfl
@[simp] theorem State.record_valid (s : State) (e : Event) : (s.record e).valid = s.valid := rfl
@[simp] theorem State.record_ovr (s : State) (e : Event) : (s.record e).ovr = s.ovr := rfl
@[simp] theorem State.record_code (s : State) (e : Event) : (s.record e).code = s.code := rfl
@[simp] theorem State.record_lastErr (s : State) (e : Event) : (s.record e).lastErr = s.lastErr := rfl
@[simp] theorem State.record_attempts (s : State) (e : Event) : (s.record e).attempts = s.attempts := rfl
@[simp] theorem State.record_acc (s : State) (e : Event) : (s.record e).acc = s.acc := rfl
@[simp] theorem State.record_seqState (s : State) (e : Event) : (s.record e).seqState = s.seqState := rfl
@[simp] theorem State.record_tOp (s : State) (e : Event) : (s.record e).tOp = s.tOp := rfl
@[simp] theorem State.record_tReg (s : State) (e : Event) : (s.record e).tReg = s.tReg := rfl
@[simp] theorem State.record_tW (s : State) (e : Event) : (s.record e).tW = s.tW := rfl
@[simp] theorem State.record_tS (s : State) (e : Event) : (s.record e).tS = s.tS := rfl
@[simp] theorem State.record_tVal (s : State) (e : Event) : (s.record e).tVal = s.tVal := rfl
@[simp] theorem State.record_tTx (s : State) (e : Event) : (s.record e).tTx = s.tTx := rfl
@[simp] theorem State.record_tN (s : State) (e : Event) : (s.record e).tN = s.tN := rfl
@[simp] theorem State.record_tXok (s : State) (e : Event) : (s.record e).tXok = s.tXok := rfl
@[simp] theorem State.record_att (s : State) (e : Event) : (s.record e).att = s.att := rfl
@[simp] theorem State.record_ratt (s : State) (e : Event) : (s.record e).ratt = s.ratt := rfl
@[simp] theorem State.record_nested (s : State) (e : Event) : (s.record e).nested = s.nested := rfl
@[simp] theorem State.record_session (s : State) (e : Event) : (s.record e).session = s.session := rfl
@[simp] theorem State.record_rxbuf (s : State) (e : Event) : (s.record e).rxbuf = s.rxbuf := rfl
@[simp] theorem State.record_history (s : State) (e : Event) : (s.record e).history = s.history ++ [e] := rfl
@[simp] theorem State.record_schedule (s : State) (e : Event) : (s.record e).schedule = s.schedule := rfl
@[simp] theorem State.record_draws (s : State) (e : Event) : (s.record e).draws = s.draws := rfl
@[simp] theorem State.record_drawCount (s : State) (e : Event) : (s.record e).drawCount = s.drawCount := rfl
@[simp] theorem State.record_portData (s : State) (e : Event) : (s.record e).portData = s.portData := rfl

@[simp] theorem State.wait_cfg (s : State) : s.wait.cfg = s.cfg := rfl
@[simp] theorem State.wait_opnd (s : State) : s.wait.opnd = s.opnd := rfl
@[simp] theorem State.wait_result (s : State) : s.wait.result = s.result := rfl
@[simp] theorem State.wait_valid (s : State) : s.wait.valid = s.valid := rfl
@[simp] theorem State.wait_ovr (s : State) : s.wait.ovr = s.ovr := rfl
@[simp] theorem State.wait_code (s : State) : s.wait.code = s.code := rfl
@[simp] theorem State.wait_lastErr (s : State) : s.wait.lastErr = s.lastErr := rfl
@[simp] theorem State.wait_attempts (s : State) : s.wait.attempts = s.attempts := rfl
@[simp] theorem State.wait_acc (s : State) : s.wait.acc = s.acc := rfl
@[simp] theorem State.wait_seqState (s : State) : s.wait.seqState = s.seqState := rfl
@[simp] theorem State.wait_tOp (s : State) : s.wait.tOp = s.tOp := rfl
@[simp] theorem State.wait_tReg (s : State) : s.wait.tReg = s.tReg := rfl
@[simp] theorem State.wait_tW (s : State) : s.wait.tW = s.tW := rfl
@[simp] theorem State.wait_tS (s : State) : s.wait.tS = s.tS := rfl
@[simp] theorem State.wait_tVal (s : State) : s.wait.tVal = s.tVal := rfl
@[simp] theorem State.wait_tTx (s : State) : s.wait.tTx = s.tTx := rfl
@[simp] theorem State.wait_tN (s : State) : s.wait.tN = s.tN := rfl
@[simp] theorem State.wait_tXok (s : State) : s.wait.tXok = s.tXok := rfl
@[simp] theorem State.wait_att (s : State) : s.wait.att = s.att := rfl
@[simp] theorem State.wait_ratt (s : State) : s.wait.ratt = s.ratt := rfl
@[simp] theorem State.wait_nested (s : State) : s.wait.nested = s.nested := rfl
@[simp] theorem State.wait_session (s : State) : s.wait.session = s.session := rfl
@[simp] theorem State.wait_rxbuf (s : State) : s.wait.rxbuf = s.rxbuf := rfl
@[simp] theorem State.wait_history (s : State) : s.wait.history = s.history ++ [.wait s.cfg.delay] := rfl
@[simp] theorem State.wait_schedule (s : State) : s.wait.schedule = s.schedule := rfl
@[simp] theorem State.wait_draws (s : State) : s.wait.draws = s.draws := rfl
@[simp] theorem State.wait_drawCount (s : State) : s.wait.drawCount = s.drawCount := rfl
@[simp] theorem State.wait_portData (s : State) : s.wait.portData = s.portData := rfl

@[simp] theorem State.tClose_cfg (s : State) : s.tClose.cfg = s.cfg := rfl
@[simp] theorem State.tClose_opnd (s : State) : s.tClose.opnd = s.opnd := rfl
@[simp] theorem State.tClose_result (s : State) : s.tClose.result = s.result := rfl
@[simp] theorem State.tClose_valid (s : State) : s.tClose.valid = s.valid := rfl
@[simp] theorem State.tClose_ovr (s : State) : s.tClose.ovr = s.ovr := rfl
@[simp] theorem State.tClose_code (s : State) : s.tClose.code = s.code := rfl
@[simp] theorem State.tClose_lastErr (s : State) : s.tClose.lastErr = s.lastErr := rfl
@[simp] theorem State.tClose_attempts (s : State) : s.tClose.attempts = s.attempts := rfl
@[simp] theorem State.tClose_acc (s : State) : s.tClose.acc = s.acc := rfl
@[simp] theorem State.tClose_seqState (s : State) : s.tClose.seqState = s.seqState := rfl
@[simp] theorem State.tClose_tOp (s : State) : s.tClose.tOp = s.tOp := rfl
@[simp] theorem State.tClose_tReg (s : State) : s.tClose.tReg = s.tReg := rfl
@[simp] theorem State.tClose_tW (s : State) : s.tClose.tW = s.tW := rfl
@[simp] theorem State.tClose_tS (s : State) : s.tClose.tS = s.tS := rfl
@[simp] theorem State.tClose_tVal (s : State) : s.tClose.tVal = s.tVal := rfl
@[simp] theorem State.tClose_tTx (s : State) : s.tClose.tTx = s.tTx := rfl
@[simp] theorem State.tClose_tN (s : State) : s.tClose.tN = s.tN := rfl
@[simp] theorem State.tClose_tXok (s : State) : s.tClose.tXok = s.tXok := rfl
@[simp] theorem State.tClose_att (s : State) : s.tClose.att = s.att := rfl
@[simp] theorem State.tClose_ratt (s : State) : s.tClose.ratt = s.ratt := rfl
@[simp] theorem State.tClose_nested (s : State) : s.tClose.nested = s.nested := rfl
@[simp] theorem State.tClose_session (s : State) : s.tClose.session = false := rfl
@[simp] theorem State.tClose_rxbuf (s : State) : s.tClose.rxbuf = s.rxbuf := rfl
@[simp] theorem State.tClose_history (s : State) : s.tClose.history = s.history ++ [.close] := rfl
@[simp] theorem State.tClose_schedule (s : State) : s.tClose.schedule = s.schedule := rfl
@[simp] theorem State.tClose_draws (s : State) : s.tClose.draws = s.draws := rfl
@[simp] theorem State.tClose_drawCount (s : State) : s.tClose.drawCount = s.drawCount := rfl
@[simp] theorem State.tClose_portData (s : State) : s.tClose.portData = s.portData := rfl

@[simp] theorem State.startLoop_cfg (s : State) (k : TxnKind) (n : Nat) (reg : Byte) :
    (s.startLoop k n reg).cfg = s.cfg := rfl
@[simp] theorem State.startLoop_opnd (s : State) (k : TxnKind) (n : Nat) (reg : Byte) :
    (s.startLoop k n reg).opnd = s.opnd := rfl
@[simp] theorem State.startLoop_result (s : State) (k : TxnKind) (n : Nat) (reg : Byte) :
    (s.startLoop k n reg).result = s.result := rfl
@[simp] theorem State.startLoop_valid (s : State) (k : TxnKind) (n : Nat) (reg : Byte) :
    (s.startLoop k n reg).valid = s.valid := rfl
@[simp] theorem State.startLoop_ovr (s : State) (k : TxnKind) (n : Nat) (reg : Byte) :
    (s.startLoop k n reg).ovr = s.ovr := rfl
@[simp] theorem State.startLoop_code (s : State) (k : TxnKind) (n : Nat) (reg : Byte) :
    (s.startLoop k n reg).code = s.code := rfl
@[simp] theorem State.startLoop_lastErr (s : State) (k : TxnKind) (n : Nat) (reg : Byte) :
    (s.startLoop k n reg).lastErr = s.lastErr := rfl
@[simp] theorem State.startLoop_attempts (s : State) (k : TxnKind) (n : Nat) (reg : Byte) :
    (s.startLoop k n reg).attempts = 1 := rfl
@[simp] theorem State.startLoop_acc (s : State) (k : TxnKind) (n : Nat) (reg : Byte) :
    (s.startLoop k n reg).acc = s.acc := rfl
@[simp] theorem State.startLoop_seqState (s : State) (k : TxnKind) (n : Nat) (reg : Byte) :
    (s.startLoop k n reg).seqState = .rOpen := rfl
@[simp] theorem State.startLoop_tOp (s : State) (k : TxnKind) (n : Nat) (reg : Byte) :
    (s.startLoop k n reg).tOp = k := rfl
@[simp] theorem State.startLoop_tReg (s : State) (k : TxnKind) (n : Nat) (reg : Byte) :
    (s.startLoop k n reg).tReg = reg := rfl
@[simp] theorem State.startLoop_tW (s : State) (k : TxnKind) (n : Nat) (reg : Byte) :
    (s.startLoop k n reg).tW = s.tW := rfl
@[simp] theorem State.startLoop_tS (s : State) (k : TxnKind) (n : Nat) (reg : Byte) :
    (s.startLoop k n reg).tS = s.tS := rfl
@[simp] theorem State.startLoop_tVal (s : State) (k : TxnKind) (n : Nat) (reg : Byte) :
    (s.startLoop k n reg).tVal = s.tVal := rfl
@[simp] theorem State.startLoop_tTx (s : State) (k : TxnKind) (n : Nat) (reg : Byte) :
    (s.startLoop k n reg).tTx = s.tTx := rfl
@[simp] theorem State.startLoop_tN (s : State) (k : TxnKind) (n : Nat) (reg : Byte) :
    (s.startLoop k n reg).tN = n := rfl
@[simp] theorem State.startLoop_tXok (s : State) (k : TxnKind) (n : Nat) (reg : Byte) :
    (s.startLoop k n reg).tXok = s.tXok := rfl
@[simp] theorem State.startLoop_att (s : State) (k : TxnKind) (n : Nat) (reg : Byte) :
    (s.startLoop k n reg).att = 0 := rfl
@[simp] theorem State.startLoop_ratt (s : State) (k : TxnKind) (n : Nat) (reg : Byte) :
    (s.startLoop k n reg).ratt = 1 := rfl
@[simp] theorem State.startLoop_nested (s : State) (k : TxnKind) (n : Nat) (reg : Byte) :
    (s.startLoop k n reg).nested = false := rfl
@[simp] theorem State.startLoop_session (s : State) (k : TxnKind) (n : Nat) (reg : Byte) :
    (s.startLoop k n reg).session = s.session := rfl
@[simp] theorem State.startLoop_rxbuf (s : State) (k : TxnKind) (n : Nat) (reg : Byte) :
    (s.startLoop k n reg).rxbuf = s.rxbuf := rfl
@[simp] theorem State.startLoop_history (s : State) (k : TxnKind) (n : Nat) (reg : Byte) :
    (s.startLoop k n reg).history = s.history := rfl
@[simp] theorem State.startLoop_schedule (s : State) (k : TxnKind) (n : Nat) (reg : Byte) :
    (s.startLoop k n reg).schedule = s.schedule := rfl
@[simp] theorem State.startLoop_draws (s : State) (k : TxnKind) (n : Nat) (reg : Byte) :
    (s.startLoop k n reg).draws = s.draws := rfl
@[simp] theorem State.startLoop_drawCount (s : State) (k : TxnKind) (n : Nat) (reg : Byte) :
    (s.startLoop k n reg).drawCount = s.drawCount := rfl
@[simp] theorem State.startLoop_portData (s : State) (k : TxnKind) (n : Nat) (reg : Byte) :
    (s.startLoop k n reg).portData = s.portData := rfl

@[simp] theorem State.startSpecial_cfg (s : State) (k : TxnKind) (reg : Byte) :
    (s.startSpecial k reg).cfg = s.cfg := rfl
@[simp] theorem State.startSpecial_opnd (s : State) (k : TxnKind) (reg : Byte) :
    (s.startSpecial k reg).opnd = s.opnd := rfl
@[simp] theorem State.startSpecial_result (s : State) (k : TxnKind) (reg : Byte) :
    (s.startSpecial k reg).result = s.result := rfl
@[simp] theorem State.startSpecial_valid (s : State) (k : TxnKind) (reg : Byte) :
    (s.startSpecial k reg).valid = s.valid := rfl
@[simp] theorem State.startSpecial_ovr (s : State) (k : TxnKind) (reg : Byte) :
    (s.startSpecial k reg).ovr = s.ovr := rfl
@[simp] theorem State.startSpecial_code (s : State) (k : TxnKind) (reg : Byte) :
    (s.startSpecial k reg).code = s.code := rfl
@[simp] theorem State.startSpecial_lastErr (s : State) (k : TxnKind) (reg : Byte) :
    (s.startSpecial k reg).lastErr = s.lastErr := rfl
@[simp] theorem State.startSpecial_attempts (s : State) (k : TxnKind) (reg : Byte) :
    (s.startSpecial k reg).attempts = 1 := rfl
@[simp] theorem State.startSpecial_acc (s : State) (k : TxnKind) (reg : Byte) :
    (s.startSpecial k reg).acc = s.acc := rfl
@[simp] theorem State.startSpecial_seqState (s : State) (k : TxnKind) (reg : Byte) :
    (s.startSpecial k reg).seqState = .rOpen := rfl
@[simp] theorem State.startSpecial_tOp (s : State) (k : TxnKind) (reg : Byte) :
    (s.startSpecial k reg).tOp = k := rfl
@[simp] theorem State.startSpecial_tReg (s : State) (k : TxnKind) (reg : Byte) :
    (s.startSpecial k reg).tReg = reg := rfl
@[simp] theorem State.startSpecial_tW (s : State) (k : TxnKind) (reg : Byte) :
    (s.startSpecial k reg).tW = (Config.unusedLatches s.drawCount).1 := rfl
@[simp] theorem State.startSpecial_tS (s : State) (k : TxnKind) (reg : Byte) :
    (s.startSpecial k reg).tS = (Config.unusedLatches s.drawCount).2 := rfl
@[simp] theorem State.startSpecial_tVal (s : State) (k : TxnKind) (reg : Byte) :
    (s.startSpecial k reg).tVal = s.tVal := rfl
@[simp] theorem State.startSpecial_tTx (s : State) (k : TxnKind) (reg : Byte) :
    (s.startSpecial k reg).tTx = s.tTx := rfl
@[simp] theorem State.startSpecial_tN (s : State) (k : TxnKind) (reg : Byte) :
    (s.startSpecial k reg).tN = 4 := rfl
@[simp] theorem State.startSpecial_tXok (s : State) (k : TxnKind) (reg : Byte) :
    (s.startSpecial k reg).tXok = s.tXok := rfl
@[simp] theorem State.startSpecial_att (s : State) (k : TxnKind) (reg : Byte) :
    (s.startSpecial k reg).att = 0 := rfl
@[simp] theorem State.startSpecial_ratt (s : State) (k : TxnKind) (reg : Byte) :
    (s.startSpecial k reg).ratt = 1 := rfl
@[simp] theorem State.startSpecial_nested (s : State) (k : TxnKind) (reg : Byte) :
    (s.startSpecial k reg).nested = false := rfl
@[simp] theorem State.startSpecial_session (s : State) (k : TxnKind) (reg : Byte) :
    (s.startSpecial k reg).session = s.session := rfl
@[simp] theorem State.startSpecial_rxbuf (s : State) (k : TxnKind) (reg : Byte) :
    (s.startSpecial k reg).rxbuf = s.rxbuf := rfl
@[simp] theorem State.startSpecial_history (s : State) (k : TxnKind) (reg : Byte) :
    (s.startSpecial k reg).history = s.history := rfl
@[simp] theorem State.startSpecial_schedule (s : State) (k : TxnKind) (reg : Byte) :
    (s.startSpecial k reg).schedule = s.schedule := rfl
@[simp] theorem State.startSpecial_draws (s : State) (k : TxnKind) (reg : Byte) :
    (s.startSpecial k reg).draws = s.draws := rfl
@[simp] theorem State.startSpecial_drawCount (s : State) (k : TxnKind) (reg : Byte) :
    (s.startSpecial k reg).drawCount = s.drawCount + 1 := rfl
@[simp] theorem State.startSpecial_portData (s : State) (k : TxnKind) (reg : Byte) :
    (s.startSpecial k reg).portData = s.portData := rfl

@[simp] theorem State.startRead_cfg (s : State) (w : Width) (sg : Signedness) (reg : Byte) :
    (s.startRead w sg reg).cfg = s.cfg := rfl
@[simp] theorem State.startRead_opnd (s : State) (w : Width) (sg : Signedness) (reg : Byte) :
    (s.startRead w sg reg).opnd = s.opnd := rfl
@[simp] theorem State.startRead_result (s : State) (w : Width) (sg : Signedness) (reg : Byte) :
    (s.startRead w sg reg).result = s.result := rfl
@[simp] theorem State.startRead_valid (s : State) (w : Width) (sg : Signedness) (reg : Byte) :
    (s.startRead w sg reg).valid = s.valid := rfl
@[simp] theorem State.startRead_ovr (s : State) (w : Width) (sg : Signedness) (reg : Byte) :
    (s.startRead w sg reg).ovr = s.ovr := rfl
@[simp] theorem State.startRead_code (s : State) (w : Width) (sg : Signedness) (reg : Byte) :
    (s.startRead w sg reg).code = s.code := rfl
@[simp] theorem State.startRead_lastErr (s : State) (w : Width) (sg : Signedness) (reg : Byte) :
    (s.startRead w sg reg).lastErr = s.lastErr := rfl
@[simp] theorem State.startRead_attempts (s : State) (w : Width) (sg : Signedness) (reg : Byte) :
    (s.startRead w sg reg).attempts = 1 := rfl
@[simp] theorem State.startRead_acc (s : State) (w : Width) (sg : Signedness) (reg : Byte) :
    (s.startRead w sg reg).acc = s.acc := rfl
@[simp] theorem State.startRead_seqState (s : State) (w : Width) (sg : Signedness) (reg : Byte) :
    (s.startRead w sg reg).seqState = .rOpen := rfl
@[simp] theorem State.startRead_tOp (s : State) (w : Width) (sg : Signedness) (reg : Byte) :
    (s.startRead w sg reg).tOp = .rd := rfl
@[simp] theorem State.startRead_tReg (s : State) (w : Width) (sg : Signedness) (reg : Byte) :
    (s.startRead w sg reg).tReg = reg := rfl
@[simp] theorem State.startRead_tW (s : State) (w : Width) (sg : Signedness) (reg : Byte) :
    (s.startRead w sg reg).tW = w := rfl
@[simp] theorem State.startRead_tS (s : State) (w : Width) (sg : Signedness) (reg : Byte) :
    (s.startRead w sg reg).tS = sg := rfl
@[simp] theorem State.startRead_tVal (s : State) (w : Width) (sg : Signedness) (reg : Byte) :
    (s.startRead w sg reg).tVal = s.tVal := rfl
@[simp] theorem State.startRead_tTx (s : State) (w : Width) (sg : Signedness) (reg : Byte) :
    (s.startRead w sg reg).tTx = s.tTx := rfl
@[simp] theorem State.startRead_tN (s : State) (w : Width) (sg : Signedness) (reg : Byte) :
    (s.startRead w sg reg).tN = payloadBytes w := rfl
@[simp] theorem State.startRead_tXok (s : State) (w : Width) (sg : Signedness) (reg : Byte) :
    (s.startRead w sg reg).tXok = s.tXok := rfl
@[simp] theorem State.startRead_att (s : State) (w : Width) (sg : Signedness) (reg : Byte) :
    (s.startRead w sg reg).att = 0 := rfl
@[simp] theorem State.startRead_ratt (s : State) (w : Width) (sg : Signedness) (reg : Byte) :
    (s.startRead w sg reg).ratt = 1 := rfl
@[simp] theorem State.startRead_nested (s : State) (w : Width) (sg : Signedness) (reg : Byte) :
    (s.startRead w sg reg).nested = false := rfl
@[simp] theorem State.startRead_session (s : State) (w : Width) (sg : Signedness) (reg : Byte) :
    (s.startRead w sg reg).session = s.session := rfl
@[simp] theorem State.startRead_rxbuf (s : State) (w : Width) (sg : Signedness) (reg : Byte) :
    (s.startRead w sg reg).rxbuf = s.rxbuf := rfl
@[simp] theorem State.startRead_history (s : State) (w : Width) (sg : Signedness) (reg : Byte) :
    (s.startRead w sg reg).history = s.history := rfl
@[simp] theorem State.startRead_schedule (s : State) (w : Width) (sg : Signedness) (reg : Byte) :
    (s.startRead w sg reg).schedule = s.schedule := rfl
@[simp] theorem State.startRead_draws (s : State) (w : Width) (sg : Signedness) (reg : Byte) :
    (s.startRead w sg reg).draws = s.draws := rfl
@[simp] theorem State.startRead_drawCount (s : State) (w : Width) (sg : Signedness) (reg : Byte) :
    (s.startRead w sg reg).drawCount = s.drawCount := rfl
@[simp] theorem State.startRead_portData (s : State) (w : Width) (sg : Signedness) (reg : Byte) :
    (s.startRead w sg reg).portData = s.portData := rfl

@[simp] theorem State.streamTo_cfg (s : State) (c : Byte) : (s.streamTo c).cfg = s.cfg := rfl
@[simp] theorem State.streamTo_opnd (s : State) (c : Byte) : (s.streamTo c).opnd = s.opnd := rfl
@[simp] theorem State.streamTo_result (s : State) (c : Byte) : (s.streamTo c).result = c.setWidth 32 := rfl
@[simp] theorem State.streamTo_valid (s : State) (c : Byte) : (s.streamTo c).valid = true := rfl
@[simp] theorem State.streamTo_ovr (s : State) (c : Byte) : (s.streamTo c).ovr = s.ovr := rfl
@[simp] theorem State.streamTo_code (s : State) (c : Byte) : (s.streamTo c).code = .ok := rfl
@[simp] theorem State.streamTo_lastErr (s : State) (c : Byte) : (s.streamTo c).lastErr = s.lastErr := rfl
@[simp] theorem State.streamTo_attempts (s : State) (c : Byte) : (s.streamTo c).attempts = s.attempts := rfl
@[simp] theorem State.streamTo_acc (s : State) (c : Byte) : (s.streamTo c).acc = c := rfl
@[simp] theorem State.streamTo_seqState (s : State) (c : Byte) : (s.streamTo c).seqState = .idle := rfl
@[simp] theorem State.streamTo_tOp (s : State) (c : Byte) : (s.streamTo c).tOp = s.tOp := rfl
@[simp] theorem State.streamTo_tReg (s : State) (c : Byte) : (s.streamTo c).tReg = s.tReg := rfl
@[simp] theorem State.streamTo_tW (s : State) (c : Byte) : (s.streamTo c).tW = s.tW := rfl
@[simp] theorem State.streamTo_tS (s : State) (c : Byte) : (s.streamTo c).tS = s.tS := rfl
@[simp] theorem State.streamTo_tVal (s : State) (c : Byte) : (s.streamTo c).tVal = s.tVal := rfl
@[simp] theorem State.streamTo_tTx (s : State) (c : Byte) : (s.streamTo c).tTx = s.tTx := rfl
@[simp] theorem State.streamTo_tN (s : State) (c : Byte) : (s.streamTo c).tN = s.tN := rfl
@[simp] theorem State.streamTo_tXok (s : State) (c : Byte) : (s.streamTo c).tXok = s.tXok := rfl
@[simp] theorem State.streamTo_att (s : State) (c : Byte) : (s.streamTo c).att = s.att := rfl
@[simp] theorem State.streamTo_ratt (s : State) (c : Byte) : (s.streamTo c).ratt = s.ratt := rfl
@[simp] theorem State.streamTo_nested (s : State) (c : Byte) : (s.streamTo c).nested = s.nested := rfl
@[simp] theorem State.streamTo_session (s : State) (c : Byte) : (s.streamTo c).session = s.session := rfl
@[simp] theorem State.streamTo_rxbuf (s : State) (c : Byte) : (s.streamTo c).rxbuf = s.rxbuf := rfl
@[simp] theorem State.streamTo_history (s : State) (c : Byte) : (s.streamTo c).history = s.history := rfl
@[simp] theorem State.streamTo_schedule (s : State) (c : Byte) : (s.streamTo c).schedule = s.schedule := rfl
@[simp] theorem State.streamTo_draws (s : State) (c : Byte) : (s.streamTo c).draws = s.draws := rfl
@[simp] theorem State.streamTo_drawCount (s : State) (c : Byte) : (s.streamTo c).drawCount = s.drawCount := rfl
@[simp] theorem State.streamTo_portData (s : State) (c : Byte) : (s.streamTo c).portData = s.portData := rfl

@[simp] theorem State.draw_cfg (s : State) : s.draw.2.cfg = s.cfg := by unfold State.draw; split <;> rfl
@[simp] theorem State.draw_opnd (s : State) : s.draw.2.opnd = s.opnd := by unfold State.draw; split <;> rfl
@[simp] theorem State.draw_result (s : State) : s.draw.2.result = s.result := by unfold State.draw; split <;> rfl
@[simp] theorem State.draw_valid (s : State) : s.draw.2.valid = s.valid := by unfold State.draw; split <;> rfl
@[simp] theorem State.draw_ovr (s : State) : s.draw.2.ovr = s.ovr := by unfold State.draw; split <;> rfl
@[simp] theorem State.draw_code (s : State) : s.draw.2.code = s.code := by unfold State.draw; split <;> rfl
@[simp] theorem State.draw_lastErr (s : State) : s.draw.2.lastErr = s.lastErr := by unfold State.draw; split <;> rfl
@[simp] theorem State.draw_attempts (s : State) :
    s.draw.2.attempts = s.attempts := by unfold State.draw; split <;> rfl
@[simp] theorem State.draw_acc (s : State) : s.draw.2.acc = s.acc := by unfold State.draw; split <;> rfl
@[simp] theorem State.draw_seqState (s : State) :
    s.draw.2.seqState = s.seqState := by unfold State.draw; split <;> rfl
@[simp] theorem State.draw_tOp (s : State) : s.draw.2.tOp = s.tOp := by unfold State.draw; split <;> rfl
@[simp] theorem State.draw_tReg (s : State) : s.draw.2.tReg = s.tReg := by unfold State.draw; split <;> rfl
@[simp] theorem State.draw_tW (s : State) : s.draw.2.tW = s.tW := by unfold State.draw; split <;> rfl
@[simp] theorem State.draw_tS (s : State) : s.draw.2.tS = s.tS := by unfold State.draw; split <;> rfl
@[simp] theorem State.draw_tVal (s : State) : s.draw.2.tVal = s.tVal := by unfold State.draw; split <;> rfl
@[simp] theorem State.draw_tTx (s : State) : s.draw.2.tTx = s.tTx := by unfold State.draw; split <;> rfl
@[simp] theorem State.draw_tN (s : State) : s.draw.2.tN = s.tN := by unfold State.draw; split <;> rfl
@[simp] theorem State.draw_tXok (s : State) : s.draw.2.tXok = s.tXok := by unfold State.draw; split <;> rfl
@[simp] theorem State.draw_att (s : State) : s.draw.2.att = s.att := by unfold State.draw; split <;> rfl
@[simp] theorem State.draw_ratt (s : State) : s.draw.2.ratt = s.ratt := by unfold State.draw; split <;> rfl
@[simp] theorem State.draw_nested (s : State) : s.draw.2.nested = s.nested := by unfold State.draw; split <;> rfl
@[simp] theorem State.draw_session (s : State) : s.draw.2.session = s.session := by unfold State.draw; split <;> rfl
@[simp] theorem State.draw_rxbuf (s : State) : s.draw.2.rxbuf = s.rxbuf := by unfold State.draw; split <;> rfl
@[simp] theorem State.draw_history (s : State) : s.draw.2.history = s.history := by unfold State.draw; split <;> rfl
@[simp] theorem State.draw_schedule (s : State) :
    s.draw.2.schedule = s.schedule := by unfold State.draw; split <;> rfl
@[simp] theorem State.draw_portData (s : State) :
    s.draw.2.portData = s.portData := by unfold State.draw; split <;> rfl

@[simp] theorem State.tOpen_cfg (s : State) : s.tOpen.2.cfg = s.cfg := by simp [State.tOpen]
@[simp] theorem State.tOpen_opnd (s : State) : s.tOpen.2.opnd = s.opnd := by simp [State.tOpen]
@[simp] theorem State.tOpen_result (s : State) : s.tOpen.2.result = s.result := by simp [State.tOpen]
@[simp] theorem State.tOpen_valid (s : State) : s.tOpen.2.valid = s.valid := by simp [State.tOpen]
@[simp] theorem State.tOpen_ovr (s : State) : s.tOpen.2.ovr = s.ovr := by simp [State.tOpen]
@[simp] theorem State.tOpen_code (s : State) : s.tOpen.2.code = s.code := by simp [State.tOpen]
@[simp] theorem State.tOpen_lastErr (s : State) : s.tOpen.2.lastErr = s.lastErr := by simp [State.tOpen]
@[simp] theorem State.tOpen_attempts (s : State) : s.tOpen.2.attempts = s.attempts := by simp [State.tOpen]
@[simp] theorem State.tOpen_acc (s : State) : s.tOpen.2.acc = s.acc := by simp [State.tOpen]
@[simp] theorem State.tOpen_seqState (s : State) : s.tOpen.2.seqState = s.seqState := by simp [State.tOpen]
@[simp] theorem State.tOpen_tOp (s : State) : s.tOpen.2.tOp = s.tOp := by simp [State.tOpen]
@[simp] theorem State.tOpen_tReg (s : State) : s.tOpen.2.tReg = s.tReg := by simp [State.tOpen]
@[simp] theorem State.tOpen_tW (s : State) : s.tOpen.2.tW = s.tW := by simp [State.tOpen]
@[simp] theorem State.tOpen_tS (s : State) : s.tOpen.2.tS = s.tS := by simp [State.tOpen]
@[simp] theorem State.tOpen_tVal (s : State) : s.tOpen.2.tVal = s.tVal := by simp [State.tOpen]
@[simp] theorem State.tOpen_tTx (s : State) : s.tOpen.2.tTx = s.tTx := by simp [State.tOpen]
@[simp] theorem State.tOpen_tN (s : State) : s.tOpen.2.tN = s.tN := by simp [State.tOpen]
@[simp] theorem State.tOpen_tXok (s : State) : s.tOpen.2.tXok = s.tXok := by simp [State.tOpen]
@[simp] theorem State.tOpen_att (s : State) : s.tOpen.2.att = s.att := by simp [State.tOpen]
@[simp] theorem State.tOpen_ratt (s : State) : s.tOpen.2.ratt = s.ratt := by simp [State.tOpen]
@[simp] theorem State.tOpen_nested (s : State) : s.tOpen.2.nested = s.nested := by simp [State.tOpen]
@[simp] theorem State.tOpen_session (s : State) : s.tOpen.2.session = s.session := by simp [State.tOpen]
@[simp] theorem State.tOpen_rxbuf (s : State) : s.tOpen.2.rxbuf = s.rxbuf := by simp [State.tOpen]
@[simp] theorem State.tOpen_history (s : State) :
    s.tOpen.2.history = s.history ++ [.opened s.cfg.busId s.tOpen.1] := by simp [State.tOpen]
@[simp] theorem State.tOpen_schedule (s : State) : s.tOpen.2.schedule = s.schedule := by simp [State.tOpen]
@[simp] theorem State.tOpen_draws (s : State) : s.tOpen.2.draws = s.draw.2.draws := rfl
@[simp] theorem State.tOpen_drawCount (s : State) : s.tOpen.2.drawCount = s.draw.2.drawCount := rfl
@[simp] theorem State.tOpen_portData (s : State) : s.tOpen.2.portData = s.portData := by simp [State.tOpen]

@[simp] theorem State.tWriteBlock_cfg (s : State) (reg : Byte) (bytes : List Byte) :
    (s.tWriteBlock reg bytes).2.cfg = s.cfg := by simp [State.tWriteBlock]
@[simp] theorem State.tWriteBlock_opnd (s : State) (reg : Byte) (bytes : List Byte) :
    (s.tWriteBlock reg bytes).2.opnd = s.opnd := by simp [State.tWriteBlock]
@[simp] theorem State.tWriteBlock_result (s : State) (reg : Byte) (bytes : List Byte) :
    (s.tWriteBlock reg bytes).2.result = s.result := by simp [State.tWriteBlock]
@[simp] theorem State.tWriteBlock_valid (s : State) (reg : Byte) (bytes : List Byte) :
    (s.tWriteBlock reg bytes).2.valid = s.valid := by simp [State.tWriteBlock]
@[simp] theorem State.tWriteBlock_ovr (s : State) (reg : Byte) (bytes : List Byte) :
    (s.tWriteBlock reg bytes).2.ovr = s.ovr := by simp [State.tWriteBlock]
@[simp] theorem State.tWriteBlock_code (s : State) (reg : Byte) (bytes : List Byte) :
    (s.tWriteBlock reg bytes).2.code = s.code := by simp [State.tWriteBlock]
@[simp] theorem State.tWriteBlock_lastErr (s : State) (reg : Byte) (bytes : List Byte) :
    (s.tWriteBlock reg bytes).2.lastErr = s.lastErr := by simp [State.tWriteBlock]
@[simp] theorem State.tWriteBlock_attempts (s : State) (reg : Byte) (bytes : List Byte) :
    (s.tWriteBlock reg bytes).2.attempts = s.attempts := by simp [State.tWriteBlock]
@[simp] theorem State.tWriteBlock_acc (s : State) (reg : Byte) (bytes : List Byte) :
    (s.tWriteBlock reg bytes).2.acc = s.acc := by simp [State.tWriteBlock]
@[simp] theorem State.tWriteBlock_seqState (s : State) (reg : Byte) (bytes : List Byte) :
    (s.tWriteBlock reg bytes).2.seqState = s.seqState := by simp [State.tWriteBlock]
@[simp] theorem State.tWriteBlock_tOp (s : State) (reg : Byte) (bytes : List Byte) :
    (s.tWriteBlock reg bytes).2.tOp = s.tOp := by simp [State.tWriteBlock]
@[simp] theorem State.tWriteBlock_tReg (s : State) (reg : Byte) (bytes : List Byte) :
    (s.tWriteBlock reg bytes).2.tReg = s.tReg := by simp [State.tWriteBlock]
@[simp] theorem State.tWriteBlock_tW (s : State) (reg : Byte) (bytes : List Byte) :
    (s.tWriteBlock reg bytes).2.tW = s.tW := by simp [State.tWriteBlock]
@[simp] theorem State.tWriteBlock_tS (s : State) (reg : Byte) (bytes : List Byte) :
    (s.tWriteBlock reg bytes).2.tS = s.tS := by simp [State.tWriteBlock]
@[simp] theorem State.tWriteBlock_tVal (s : State) (reg : Byte) (bytes : List Byte) :
    (s.tWriteBlock reg bytes).2.tVal = s.tVal := by simp [State.tWriteBlock]
@[simp] theorem State.tWriteBlock_tTx (s : State) (reg : Byte) (bytes : List Byte) :
    (s.tWriteBlock reg bytes).2.tTx = s.tTx := by simp [State.tWriteBlock]
@[simp] theorem State.tWriteBlock_tN (s : State) (reg : Byte) (bytes : List Byte) :
    (s.tWriteBlock reg bytes).2.tN = s.tN := by simp [State.tWriteBlock]
@[simp] theorem State.tWriteBlock_tXok (s : State) (reg : Byte) (bytes : List Byte) :
    (s.tWriteBlock reg bytes).2.tXok = s.tXok := by simp [State.tWriteBlock]
@[simp] theorem State.tWriteBlock_att (s : State) (reg : Byte) (bytes : List Byte) :
    (s.tWriteBlock reg bytes).2.att = s.att := by simp [State.tWriteBlock]
@[simp] theorem State.tWriteBlock_ratt (s : State) (reg : Byte) (bytes : List Byte) :
    (s.tWriteBlock reg bytes).2.ratt = s.ratt := by simp [State.tWriteBlock]
@[simp] theorem State.tWriteBlock_nested (s : State) (reg : Byte) (bytes : List Byte) :
    (s.tWriteBlock reg bytes).2.nested = s.nested := by simp [State.tWriteBlock]
@[simp] theorem State.tWriteBlock_session (s : State) (reg : Byte) (bytes : List Byte) :
    (s.tWriteBlock reg bytes).2.session = s.session := by simp [State.tWriteBlock]
@[simp] theorem State.tWriteBlock_rxbuf (s : State) (reg : Byte) (bytes : List Byte) :
    (s.tWriteBlock reg bytes).2.rxbuf = s.rxbuf := by simp [State.tWriteBlock]
@[simp] theorem State.tWriteBlock_history (s : State) (reg : Byte) (bytes : List Byte) :
    (s.tWriteBlock reg bytes).2.history = s.history ++ [.write s.cfg.devAddr reg bytes (s.tWriteBlock reg bytes).1] := by simp [State.tWriteBlock]
@[simp] theorem State.tWriteBlock_schedule (s : State) (reg : Byte) (bytes : List Byte) :
    (s.tWriteBlock reg bytes).2.schedule = s.schedule := by simp [State.tWriteBlock]
@[simp] theorem State.tWriteBlock_draws (s : State) (reg : Byte) (bytes : List Byte) :
    (s.tWriteBlock reg bytes).2.draws = s.draw.2.draws := rfl
@[simp] theorem State.tWriteBlock_drawCount (s : State) (reg : Byte) (bytes : List Byte) :
    (s.tWriteBlock reg bytes).2.drawCount = s.draw.2.drawCount := rfl
@[simp] theorem State.tWriteBlock_portData (s : State) (reg : Byte) (bytes : List Byte) :
    (s.tWriteBlock reg bytes).2.portData = s.portData := by simp [State.tWriteBlock]

@[simp] theorem State.tReadBlock_cfg (s : State) (reg : Byte) (n : Nat) :
    (s.tReadBlock reg n).2.cfg = s.cfg := by simp [State.tReadBlock]
@[simp] theorem State.tReadBlock_opnd (s : State) (reg : Byte) (n : Nat) :
    (s.tReadBlock reg n).2.opnd = s.opnd := by simp [State.tReadBlock]
@[simp] theorem State.tReadBlock_result (s : State) (reg : Byte) (n : Nat) :
    (s.tReadBlock reg n).2.result = s.result := by simp [State.tReadBlock]
@[simp] theorem State.tReadBlock_valid (s : State) (reg : Byte) (n : Nat) :
    (s.tReadBlock reg n).2.valid = s.valid := by simp [State.tReadBlock]
@[simp] theorem State.tReadBlock_ovr (s : State) (reg : Byte) (n : Nat) :
    (s.tReadBlock reg n).2.ovr = s.ovr := by simp [State.tReadBlock]
@[simp] theorem State.tReadBlock_code (s : State) (reg : Byte) (n : Nat) :
    (s.tReadBlock reg n).2.code = s.code := by simp [State.tReadBlock]
@[simp] theorem State.tReadBlock_lastErr (s : State) (reg : Byte) (n : Nat) :
    (s.tReadBlock reg n).2.lastErr = s.lastErr := by simp [State.tReadBlock]
@[simp] theorem State.tReadBlock_attempts (s : State) (reg : Byte) (n : Nat) :
    (s.tReadBlock reg n).2.attempts = s.attempts := by simp [State.tReadBlock]
@[simp] theorem State.tReadBlock_acc (s : State) (reg : Byte) (n : Nat) :
    (s.tReadBlock reg n).2.acc = s.acc := by simp [State.tReadBlock]
@[simp] theorem State.tReadBlock_seqState (s : State) (reg : Byte) (n : Nat) :
    (s.tReadBlock reg n).2.seqState = s.seqState := by simp [State.tReadBlock]
@[simp] theorem State.tReadBlock_tOp (s : State) (reg : Byte) (n : Nat) :
    (s.tReadBlock reg n).2.tOp = s.tOp := by simp [State.tReadBlock]
@[simp] theorem State.tReadBlock_tReg (s : State) (reg : Byte) (n : Nat) :
    (s.tReadBlock reg n).2.tReg = s.tReg := by simp [State.tReadBlock]
@[simp] theorem State.tReadBlock_tW (s : State) (reg : Byte) (n : Nat) :
    (s.tReadBlock reg n).2.tW = s.tW := by simp [State.tReadBlock]
@[simp] theorem State.tReadBlock_tS (s : State) (reg : Byte) (n : Nat) :
    (s.tReadBlock reg n).2.tS = s.tS := by simp [State.tReadBlock]
@[simp] theorem State.tReadBlock_tVal (s : State) (reg : Byte) (n : Nat) :
    (s.tReadBlock reg n).2.tVal = s.tVal := by simp [State.tReadBlock]
@[simp] theorem State.tReadBlock_tTx (s : State) (reg : Byte) (n : Nat) :
    (s.tReadBlock reg n).2.tTx = s.tTx := by simp [State.tReadBlock]
@[simp] theorem State.tReadBlock_tN (s : State) (reg : Byte) (n : Nat) :
    (s.tReadBlock reg n).2.tN = s.tN := by simp [State.tReadBlock]
@[simp] theorem State.tReadBlock_tXok (s : State) (reg : Byte) (n : Nat) :
    (s.tReadBlock reg n).2.tXok = s.tXok := by simp [State.tReadBlock]
@[simp] theorem State.tReadBlock_att (s : State) (reg : Byte) (n : Nat) :
    (s.tReadBlock reg n).2.att = s.att := by simp [State.tReadBlock]
@[simp] theorem State.tReadBlock_ratt (s : State) (reg : Byte) (n : Nat) :
    (s.tReadBlock reg n).2.ratt = s.ratt := by simp [State.tReadBlock]
@[simp] theorem State.tReadBlock_nested (s : State) (reg : Byte) (n : Nat) :
    (s.tReadBlock reg n).2.nested = s.nested := by simp [State.tReadBlock]
@[simp] theorem State.tReadBlock_session (s : State) (reg : Byte) (n : Nat) :
    (s.tReadBlock reg n).2.session = s.session := by simp [State.tReadBlock]
@[simp] theorem State.tReadBlock_rxbuf (s : State) (reg : Byte) (n : Nat) :
    (s.tReadBlock reg n).2.rxbuf = s.rxbuf := by simp [State.tReadBlock]
@[simp] theorem State.tReadBlock_history (s : State) (reg : Byte) (n : Nat) :
    (s.tReadBlock reg n).2.history = s.history ++ [.read s.cfg.devAddr reg n (s.tReadBlock reg n).1] := by simp [State.tReadBlock]
@[simp] theorem State.tReadBlock_schedule (s : State) (reg : Byte) (n : Nat) :
    (s.tReadBlock reg n).2.schedule = s.schedule := by simp [State.tReadBlock]
@[simp] theorem State.tReadBlock_draws (s : State) (reg : Byte) (n : Nat) :
    (s.tReadBlock reg n).2.draws = s.draw.2.draws := rfl
@[simp] theorem State.tReadBlock_drawCount (s : State) (reg : Byte) (n : Nat) :
    (s.tReadBlock reg n).2.drawCount = s.draw.2.drawCount := rfl
@[simp] theorem State.tReadBlock_portData (s : State) (reg : Byte) (n : Nat) :
    (s.tReadBlock reg n).2.portData = s.portData := by simp [State.tReadBlock]

@[simp] theorem State.takeAnswer_cfg (s : State) (a : Option (List Byte)) :
    (s.takeAnswer a).cfg = s.cfg := by unfold State.takeAnswer; split <;> (try split) <;> rfl
@[simp] theorem State.takeAnswer_opnd (s : State) (a : Option (List Byte)) :
    (s.takeAnswer a).opnd = s.opnd := by unfold State.takeAnswer; split <;> (try split) <;> rfl
@[simp] theorem State.takeAnswer_result (s : State) (a : Option (List Byte)) :
    (s.takeAnswer a).result = s.result := by unfold State.takeAnswer; split <;> (try split) <;> rfl
@[simp] theorem State.takeAnswer_valid (s : State) (a : Option (List Byte)) :
    (s.takeAnswer a).valid = s.valid := by unfold State.takeAnswer; split <;> (try split) <;> rfl
@[simp] theorem State.takeAnswer_ovr (s : State) (a : Option (List Byte)) :
    (s.takeAnswer a).ovr = s.ovr := by unfold State.takeAnswer; split <;> (try split) <;> rfl
@[simp] theorem State.takeAnswer_code (s : State) (a : Option (List Byte)) :
    (s.takeAnswer a).code = s.code := by unfold State.takeAnswer; split <;> (try split) <;> rfl
@[simp] theorem State.takeAnswer_lastErr (s : State) (a : Option (List Byte)) :
    (s.takeAnswer a).lastErr = s.lastErr := by unfold State.takeAnswer; split <;> (try split) <;> rfl
@[simp] theorem State.takeAnswer_attempts (s : State) (a : Option (List Byte)) :
    (s.takeAnswer a).attempts = s.attempts := by unfold State.takeAnswer; split <;> (try split) <;> rfl
@[simp] theorem State.takeAnswer_acc (s : State) (a : Option (List Byte)) :
    (s.takeAnswer a).acc = s.acc := by unfold State.takeAnswer; split <;> (try split) <;> rfl
@[simp] theorem State.takeAnswer_seqState (s : State) (a : Option (List Byte)) :
    (s.takeAnswer a).seqState = s.seqState := by unfold State.takeAnswer; split <;> (try split) <;> rfl
@[simp] theorem State.takeAnswer_tOp (s : State) (a : Option (List Byte)) :
    (s.takeAnswer a).tOp = s.tOp := by unfold State.takeAnswer; split <;> (try split) <;> rfl
@[simp] theorem State.takeAnswer_tReg (s : State) (a : Option (List Byte)) :
    (s.takeAnswer a).tReg = s.tReg := by unfold State.takeAnswer; split <;> (try split) <;> rfl
@[simp] theorem State.takeAnswer_tW (s : State) (a : Option (List Byte)) :
    (s.takeAnswer a).tW = s.tW := by unfold State.takeAnswer; split <;> (try split) <;> rfl
@[simp] theorem State.takeAnswer_tS (s : State) (a : Option (List Byte)) :
    (s.takeAnswer a).tS = s.tS := by unfold State.takeAnswer; split <;> (try split) <;> rfl
@[simp] theorem State.takeAnswer_tVal (s : State) (a : Option (List Byte)) :
    (s.takeAnswer a).tVal = s.tVal := by unfold State.takeAnswer; split <;> (try split) <;> rfl
@[simp] theorem State.takeAnswer_tTx (s : State) (a : Option (List Byte)) :
    (s.takeAnswer a).tTx = s.tTx := by unfold State.takeAnswer; split <;> (try split) <;> rfl
@[simp] theorem State.takeAnswer_tN (s : State) (a : Option (List Byte)) :
    (s.takeAnswer a).tN = s.tN := by unfold State.takeAnswer; split <;> (try split) <;> rfl
@[simp] theorem State.takeAnswer_att (s : State) (a : Option (List Byte)) :
    (s.takeAnswer a).att = s.att := by unfold State.takeAnswer; split <;> (try split) <;> rfl
@[simp] theorem State.takeAnswer_ratt (s : State) (a : Option (List Byte)) :
    (s.takeAnswer a).ratt = s.ratt := by unfold State.takeAnswer; split <;> (try split) <;> rfl
@[simp] theorem State.takeAnswer_nested (s : State) (a : Option (List Byte)) :
    (s.takeAnswer a).nested = s.nested := by unfold State.takeAnswer; split <;> (try split) <;> rfl
@[simp] theorem State.takeAnswer_session (s : State) (a : Option (List Byte)) :
    (s.takeAnswer a).session = s.session := by unfold State.takeAnswer; split <;> (try split) <;> rfl
@[simp] theorem State.takeAnswer_history (s : State) (a : Option (List Byte)) :
    (s.takeAnswer a).history = s.history := by unfold State.takeAnswer; split <;> (try split) <;> rfl
@[simp] theorem State.takeAnswer_schedule (s : State) (a : Option (List Byte)) :
    (s.takeAnswer a).schedule = s.schedule := by unfold State.takeAnswer; split <;> (try split) <;> rfl
@[simp] theorem State.takeAnswer_draws (s : State) (a : Option (List Byte)) :
    (s.takeAnswer a).draws = s.draws := by unfold State.takeAnswer; split <;> (try split) <;> rfl
@[simp] theorem State.takeAnswer_drawCount (s : State) (a : Option (List Byte)) :
    (s.takeAnswer a).drawCount = s.drawCount := by unfold State.takeAnswer; split <;> (try split) <;> rfl
@[simp] theorem State.takeAnswer_portData (s : State) (a : Option (List Byte)) :
    (s.takeAnswer a).portData = s.portData := by unfold State.takeAnswer; split <;> (try split) <;> rfl

end Sys2Proof.Machine
end

