-- ==== Sys2Proof/Laws/Ops.lean ====
section
/-!
SUPPORT. What each shared operation can do, said once: acceptance, draws, the ends of attempts, the split of a
frame, a command, and a step.
-/

namespace Sys2Proof.Machine

open Sys2Proof.Config (Draw)

/-! ### Acceptance -/

theorem State.busy_iff (s : State) : s.busy = true ↔ s.seqState ≠ .idle := by
  simp [State.busy]

theorem State.not_busy_iff (s : State) : s.busy = false ↔ s.seqState = .idle := by
  simp [State.busy]

theorem accept_busy {s : State} (body : State → State) (h : s.busy = true) :
    s.accept body = .next { s with ovr := true } := by
  simp [State.accept, h]

theorem accept_idle {s : State} (body : State → State) (h : s.busy = false) :
    s.accept body = .next (body s.cleared) := by
  simp [State.accept, h]

theorem accept_cases {s t : State} {body : State → State} (h : s.accept body = .next t) :
    (s.busy = true ∧ t = { s with ovr := true }) ∨ (s.busy = false ∧ t = body s.cleared) := by
  cases hb : s.busy with
  | true => rw [accept_busy body hb] at h; cases h; exact .inl ⟨rfl, rfl⟩
  | false => rw [accept_idle body hb] at h; cases h; exact .inr ⟨rfl, rfl⟩

/-- Every command is an acceptance of its body. -/
theorem exec_is_accept (i : Instr) : ∃ body, ∀ s, exec i s = s.accept body := by
  cases i with
  | crcd data => exact ⟨fun t => t.streamTo (crcFold t.acc data), fun _ => rfl⟩
  | dec24u =>
    exact ⟨fun t => t.complete .ok (uptimeWord (t.opndByte 0) (t.opndByte 1) (t.opndByte 2)) true,
      fun _ => rfl⟩
  | _ => exact ⟨_, fun _ => rfl⟩

/-- A command never stops the machine. -/
theorem exec_answers_next (i : Instr) (s : State) : ∃ t, exec i s = .next t := by
  obtain ⟨body, h⟩ := exec_is_accept i
  rw [h]
  cases hb : s.busy with
  | true => exact ⟨_, accept_busy body hb⟩
  | false => exact ⟨_, accept_idle body hb⟩

/-! ### Draws -/

theorem draw_fixed {s : State} {d : Draw} {rest : List Draw} (h : s.draws = d :: rest) :
    s.draw = (d, { s with draws := rest }) := by
  simp [State.draw, h]

theorem draw_free {s : State} (h : s.draws = []) :
    s.draw = (Config.freeDraw s.drawCount, { s with drawCount := s.drawCount + 1 }) := by
  simp [State.draw, h]

/-- A draw changes the Transport's answers and nothing else. -/
theorem draw_cases (s : State) :
    ∃ rest n, s.draw.2 = { s with draws := rest, drawCount := n } := by
  unfold State.draw
  split
  · exact ⟨_, s.drawCount, rfl⟩
  · exact ⟨s.draws, _, rfl⟩

/-! ### Ends of attempts -/

theorem writeAttemptEnd_again {s : State} (h : s.att < s.cfg.maxRetries) :
    s.writeAttemptEnd =
      { s with att := s.att + 1, attempts := BitVec.ofNat 8 (s.att + 1), seqState := .wOpen } := by
  simp [State.writeAttemptEnd, h]

theorem writeAttemptEnd_last {s : State} (h : s.cfg.maxRetries ≤ s.att) :
    s.writeAttemptEnd = s.completeTransaction .retriesExhausted 0 false := by
  simp [State.writeAttemptEnd, Nat.not_lt.mpr h]

theorem readAttemptEnd_again {s : State} (h : s.ratt < s.cfg.maxRetries) :
    s.readAttemptEnd = { s with
      ratt := s.ratt + 1
      attempts := if s.nested = true then s.attempts else BitVec.ofNat 8 (s.ratt + 1)
      seqState := .rOpen } := by
  simp [State.readAttemptEnd, h]

theorem readAttemptEnd_last {s : State} (h : s.cfg.maxRetries ≤ s.ratt) :
    s.readAttemptEnd = s.readFailed := by
  simp [State.readAttemptEnd, Nat.not_lt.mpr h]

theorem readFailed_top {s : State} (h : s.nested = false) :
    s.readFailed = s.completeTransaction .retriesExhausted 0 false := by
  simp [State.readFailed, h]

theorem readFailed_nested {s : State} (h : s.nested = true) :
    s.readFailed = State.writeAttemptEnd { s with nested := false, ratt := 0 } := by
  simp [State.readFailed, h]

/-! ### Frames -/

/-- A frame splits exactly as its payload of `n` bytes followed by its checksum byte. -/
theorem splitFrame_eq_some {n : Nat} {rx p : List Byte} {c : Byte} :
    splitFrame n rx = some (p, c) ↔ rx = p ++ [c] ∧ p.length = n := by
  unfold splitFrame
  constructor
  · intro h
    split at h
    · rename_i hlen
      simp only [Option.map_eq_some_iff, Prod.mk.injEq] at h
      obtain ⟨b, hb, hp, rfl⟩ := h
      subst hp
      obtain ⟨hn, rfl⟩ := List.getElem?_eq_some_iff.mp hb
      refine ⟨?_, by simp; omega⟩
      rw [List.take_append_getElem, List.take_of_length_le (by omega)]
    · cases h
  · rintro ⟨rfl, rfl⟩
    simp

theorem splitFrame_eq_none {n : Nat} {rx : List Byte} :
    splitFrame n rx = none ↔ rx.length ≠ n + 1 := by
  unfold splitFrame
  split
  · rename_i h
    simp [h]
  · rename_i h
    simp [h]

/-- A transfer taken as good has left a frame of the length asked for. -/
theorem takeAnswer_length {s : State} {a : Option (List Byte)} (h : (s.takeAnswer a).tXok = true) :
    (s.takeAnswer a).rxbuf.length = s.tN + 1 := by
  cases a with
  | none => simp [State.takeAnswer] at h
  | some bytes =>
    by_cases hl : bytes.length = s.tN + 1
    · simp [State.takeAnswer, hl]
    · simp [State.takeAnswer, hl] at h

/-! ### Commands and steps -/

/-- Presenting a word runs the command it spells, or the illegal command. -/
theorem presentCommand_ok {w : Word} {i : Instr} (h : decode w = .ok i) (s : State) :
    presentCommand w s = exec i s := by
  simp [presentCommand, h]

theorem presentCommand_error {w : Word} {e : Illegal} (h : decode w = .error e) (s : State) :
    presentCommand w s = illegalCommand s := by
  simp [presentCommand, h]

/-- Any word presented is accepted or rejected; it never stops the machine. -/
theorem presentCommand_is_accept (w : Word) : ∃ body, ∀ s, presentCommand w s = s.accept body := by
  cases h : decode w with
  | ok i =>
    obtain ⟨body, hb⟩ := exec_is_accept i
    exact ⟨body, fun s => by rw [presentCommand_ok h, hb]⟩
  | error e => exact ⟨_, fun s => presentCommand_error h s⟩

theorem step_of_empty {s : State} (h : s.schedule = []) : step s = sequencerStep s := by
  simp [step, h]

theorem step_of_cons {s : State} {m : Move} {rest : List Move} (h : s.schedule = m :: rest) :
    step s = moveStep m { s with schedule := rest } := by
  simp [step, h]

theorem sequencerStep_idle {s : State} (h : s.seqState = .idle) : sequencerStep s = .next s := by
  simp [sequencerStep, h]

end Sys2Proof.Machine
end

