-- ==== Sys2Proof/Laws/PerInstr.lean ====
section
/-!
SUPPORT. Statements made per command: the fields of an encoded command are the command's own (R76), and they pass
the check of R78.
-/

namespace Sys2Proof

/-- Cutting a word made from fields gives the fields back. -/
theorem Fields.ofWord_toWord (f : Fields) : Fields.ofWord f.toWord = f := by
  obtain ⟨op, s, w, rsv, reg, immA, immB⟩ := f
  simp only [Fields.ofWord, Fields.toWord, Fields.mk.injEq]
  refine ⟨?_, ?_, ?_, ?_, ?_, ?_, ?_⟩ <;>
    (ext k hk; simp only [BitVec.getElem_extractLsb', BitVec.getLsbD_append]; grind)

namespace Laws.Encoding

/-- The word of a command cuts into the command's fields, and they are well-formed. -/
def Statement (i : Instr) : Prop := Fields.ofWord (encode i) = i.fields ∧ i.wellFormed = true

theorem crcb (seed data : Byte) : Statement (.crcb seed data) :=
  ⟨Fields.ofWord_toWord _, rfl⟩

theorem crca (b : Byte) : Statement (.crca b) :=
  ⟨Fields.ofWord_toWord _, rfl⟩

theorem crcd (b : Byte) : Statement (.crcd b) :=
  ⟨Fields.ofWord_toWord _, rfl⟩

theorem enc8u : Statement (.enc8u) :=
  ⟨Fields.ofWord_toWord _, rfl⟩

theorem enc8s : Statement (.enc8s) :=
  ⟨Fields.ofWord_toWord _, rfl⟩

theorem enc16u : Statement (.enc16u) :=
  ⟨Fields.ofWord_toWord _, rfl⟩

theorem enc16s : Statement (.enc16s) :=
  ⟨Fields.ofWord_toWord _, rfl⟩

theorem dec8u : Statement (.dec8u) :=
  ⟨Fields.ofWord_toWord _, rfl⟩

theorem dec8s : Statement (.dec8s) :=
  ⟨Fields.ofWord_toWord _, rfl⟩

theorem dec16u : Statement (.dec16u) :=
  ⟨Fields.ofWord_toWord _, rfl⟩

theorem dec16s : Statement (.dec16s) :=
  ⟨Fields.ofWord_toWord _, rfl⟩

theorem dec24u : Statement (.dec24u) :=
  ⟨Fields.ofWord_toWord _, rfl⟩

theorem wr8u (b : Byte) : Statement (.wr8u b) :=
  ⟨Fields.ofWord_toWord _, rfl⟩

theorem wr8s (b : Byte) : Statement (.wr8s b) :=
  ⟨Fields.ofWord_toWord _, rfl⟩

theorem wr16u (b : Byte) : Statement (.wr16u b) :=
  ⟨Fields.ofWord_toWord _, rfl⟩

theorem wr16s (b : Byte) : Statement (.wr16s b) :=
  ⟨Fields.ofWord_toWord _, rfl⟩

theorem rd8u (b : Byte) : Statement (.rd8u b) :=
  ⟨Fields.ofWord_toWord _, rfl⟩

theorem rd8s (b : Byte) : Statement (.rd8s b) :=
  ⟨Fields.ofWord_toWord _, rfl⟩

theorem rd16u (b : Byte) : Statement (.rd16u b) :=
  ⟨Fields.ofWord_toWord _, rfl⟩

theorem rd16s (b : Byte) : Statement (.rd16s b) :=
  ⟨Fields.ofWord_toWord _, rfl⟩

theorem rdver (b : Byte) : Statement (.rdver b) :=
  ⟨Fields.ofWord_toWord _, rfl⟩

theorem rdupt (b : Byte) : Statement (.rdupt b) :=
  ⟨Fields.ofWord_toWord _, rfl⟩

end Laws.Encoding
end Sys2Proof
end

