-- ==== Sys2Proof/Laws/Run.lean ====
section
/-!
SUPPORT. Runs of several steps: `runSteps` is the host's `Core.run`, and runs compose.
-/

namespace Sys2Proof.Machine

theorem runSteps_zero (s : State) : runSteps 0 s = .next s := rfl

theorem runSteps_one (s : State) : runSteps 1 s = step s := by
  simp only [runSteps]
  cases step s <;> rfl

theorem runSteps_succ {s t : State} (k : Nat) (h : step s = .next t) : runSteps (k + 1) s = runSteps k t := by
  simp only [runSteps, h]

/-- A run that has reached `t` goes on from `t`. -/
theorem runSteps_add {k : Nat} {s t : State} (l : Nat) (h : runSteps k s = .next t) :
    runSteps (k + l) s = runSteps l t := by
  induction k generalizing s with
  | zero => cases h; rw [Nat.zero_add]
  | succ k ih =>
    rw [Nat.succ_add]
    simp only [runSteps] at h ⊢
    split at h
    · exact ih h
    · cases h
    · cases h

/-- One unfolding of the host's run, for any machine. -/
theorem core_run_succ (M : Host.Core) (k : Nat) (s : M.State) :
    M.run (k + 1) s =
      match M.step s with
      | .next t => M.run k t
      | .fault r => .fault r
      | .refused r => .refused r := by
  cases h : M.step s <;> simp only [Host.Core.run, h]

theorem runSteps_eq_core_run (k : Nat) (s : State) : runSteps k s = core.run k s := by
  induction k generalizing s with
  | zero => rfl
  | succ k ih =>
    refine Eq.trans ?_ (core_run_succ core k s).symm
    simp only [runSteps]
    cases h : step s with
    | next t =>
      have h' : core.step s = .next t := h
      simp only [h']
      exact ih t
    | fault r =>
      have h' : core.step s = .fault r := h
      simp only [h']
      rfl
    | refused r =>
      have h' : core.step s = .refused r := h
      simp only [h']
      rfl

end Sys2Proof.Machine
end

