-- ==== Sys2Proof/Tests/Slice0.lean ====
section
/-!
SUPPORT. Tests: the well-formedness check refuses, the words of the spec's encoding decode, single steps give the
spec's vectors (95_test_vectors.md), and every statement with hypotheses has a state and operands that meet them.
-/

namespace Sys2Proof.Tests

open Sys2Proof.Machine
open Sys2Proof.Config (Draw)

set_option maxRecDepth 4000

/-! ### Small states -/

/-- The reset state with `N = 3` and the layout (0, 1, 2), as the spec's vectors start. -/
def base : State := { State.reset with cfg := { maxRetries := 3 } }

/-- `base` with a word in `OPND`. -/
def withOpnd (v : Word) : State := { base with opnd := v }

/-- An idle block that holds an older outcome. -/
def stale : State :=
  { base with
    opnd := 0xFFFFFFD8, acc := 0x72, ovr := true, code := .ok, valid := true, result := 0x1234,
    lastErr := .checksum, attempts := 2, draws := [.err], tReg := 0x33, tTx := [0x01], tXok := true,
    rxbuf := [0x02] }

/-- WR8U 0x21 of 30, running, in a state of the write loop (S2). -/
def writing (q : SeqState) (att : Nat) (answers : List Draw) : State :=
  { base with
    opnd := 30, tReg := 0x21, tVal := 30, tTx := [0x1E, 0x74], tN := 1, att := att,
    attempts := BitVec.ofNat 8 att, seqState := q, session := q.inSession, draws := answers,
    history := [.close] }

/-- The same write in its read-back. -/
def verifying (q : SeqState) (att ratt : Nat) (answers : List Draw) : State :=
  { writing q att answers with nested := true, ratt := ratt }

/-- RD16S 0x11, running (S1). -/
def reading (q : SeqState) (ratt : Nat) (answers : List Draw) : State :=
  { base with
    tOp := .rd, tReg := 0x11, tW := .w16, tS := .signed, tN := 2, ratt := ratt,
    attempts := BitVec.ofNat 8 ratt, seqState := q, session := q.inSession, draws := answers }

/-- A read or read-back in `R_CLOSE` whose transfer brought a frame. -/
def received (s : State) (rx : List Byte) : State := { s with rxbuf := rx, tXok := true }

/-- A field of the next state; `none` where the step gives none. -/
def look {α : Type} (f : State → α) : Result → Option α
  | .next t => some (f t)
  | .fault _ => none
  | .refused _ => none

/-- What the Host sees: `RESULT`, `STATUS` and `ACC`. -/
def seen (t : State) : Word × Word × Byte := (t.result, t.statusWord, t.acc)

/-- What a Sequencer step moves. -/
structure Moved where
  seqState : SeqState
  att : Nat
  ratt : Nat
  nested : Bool
  session : Bool
  events : Nat
deriving DecidableEq, Repr

/-- What a Sequencer step has moved. -/
def moved (t : State) : Moved := ⟨t.seqState, t.att, t.ratt, t.nested, t.session, t.history.length⟩

/-! ### Ill-formed fields and words are refused (R78, R83; vectors D1v to D15v) -/

theorem test_refuses_reserved_op :
    (Fields.bare 0x0#4 0 0).wellFormed = false ∧ (Fields.bare 0xB#4 0 0).wellFormed = false ∧
    (Fields.bare 0xF#4 0 0).wellFormed = false ∧
    decode 0x00000000 = .error .reservedOp ∧ decode 0x0000000B = .error .reservedOp ∧
    decode 0x0000000C = .error .reservedOp ∧ decode 0x0000000D = .error .reservedOp ∧
    decode 0x0000000E = .error .reservedOp ∧ decode 0x0000000F = .error .reservedOp := by decide

theorem test_refuses_reserved_bits :
    Fields.wellFormed { Fields.bare 0x1#4 0 0 with rsv := 1 } = false ∧
    decode 0x00000041 = .error .reservedBits ∧ decode 0x00000081 = .error .reservedBits := by decide

theorem test_refuses_signedness :
    (Fields.bare 0x6#4 1 0).wellFormed = false ∧ decode 0x00000016 = .error .signedness ∧
    decode 0x00000011 = .error .signedness ∧ decode 0x00004019 = .error .signedness := by decide

theorem test_refuses_width :
    (Fields.bare 0x6#4 0 1).wellFormed = false ∧ decode 0x00000026 = .error .width ∧
    decode 0x0000412A = .error .width := by decide

theorem test_refuses_reg :
    Fields.wellFormed { Fields.bare 0x4#4 0 0 with reg := 1 } = false ∧ decode 0x00000104 = .error .reg ∧
    decode 0x00000101 = .error .reg := by decide

theorem test_refuses_imm_a :
    Fields.wellFormed { Fields.bare 0x4#4 0 0 with immA := 0x11 } = false ∧
    decode 0x00110004 = .error .immA ∧ decode 0x00010007 = .error .immA := by decide

theorem test_refuses_imm_b :
    Fields.wellFormed { Fields.bare 0x2#4 0 0 with reg := 0x11, immB := 1 } = false ∧
    decode 0x01001102 = .error .immB ∧ decode 0x01000003 = .error .immB := by decide

/-! ### Every constructor, from the rows of R82 and the words of the worked examples -/

/-- One word of each shape, field by field, high field first: IMM_B, IMM_A, REG, RSV, W, S, OP (R76). -/
theorem test_decode_fields :
    decode (0x34#8 ++ 0x12#8 ++ 0#8 ++ 0b00#2 ++ 0b0#1 ++ 0b0#1 ++ 0b0001#4) = .ok (.crcb 0x12 0x34) ∧
    decode (0#8 ++ 0#8 ++ 0x11#8 ++ 0b00#2 ++ 0b0#1 ++ 0b0#1 ++ 0b0010#4) = .ok (.crca 0x11) ∧
    decode (0#8 ++ 0x34#8 ++ 0#8 ++ 0b00#2 ++ 0b0#1 ++ 0b0#1 ++ 0b0011#4) = .ok (.crcd 0x34) ∧
    decode (0#8 ++ 0#8 ++ 0#8 ++ 0b00#2 ++ 0b1#1 ++ 0b0#1 ++ 0b0100#4) = .ok .enc16u ∧
    decode (0#8 ++ 0#8 ++ 0#8 ++ 0b00#2 ++ 0b0#1 ++ 0b1#1 ++ 0b0101#4) = .ok .dec8s ∧
    decode (0#8 ++ 0#8 ++ 0x22#8 ++ 0b00#2 ++ 0b0#1 ++ 0b1#1 ++ 0b0111#4) = .ok (.wr8s 0x22) ∧
    decode (0#8 ++ 0#8 ++ 0x11#8 ++ 0b00#2 ++ 0b1#1 ++ 0b0#1 ++ 0b1000#4) = .ok (.rd16u 0x11) := by decide

theorem test_decode_checksum :
    decode 0x34120001 = .ok (.crcb 0x12 0x34) ∧ decode 0xFFFF0001 = .ok (.crcb 0xFF 0xFF) ∧
    decode 0x00001102 = .ok (.crca 0x11) ∧ decode 0x00FF0003 = .ok (.crcd 0xFF) := by decide

theorem test_decode_codec :
    decode 0x00000004 = .ok .enc8u ∧ decode 0x00000014 = .ok .enc8s ∧ decode 0x00000024 = .ok .enc16u ∧
    decode 0x00000034 = .ok .enc16s ∧ decode 0x00000005 = .ok .dec8u ∧ decode 0x00000015 = .ok .dec8s ∧
    decode 0x00000025 = .ok .dec16u ∧ decode 0x00000035 = .ok .dec16s ∧ decode 0x00000006 = .ok .dec24u := by
  decide

theorem test_decode_writes :
    decode 0x00002107 = .ok (.wr8u 0x21) ∧ decode 0x00002217 = .ok (.wr8s 0x22) ∧
    decode 0x00003027 = .ok (.wr16u 0x30) ∧ decode 0x00001137 = .ok (.wr16s 0x11) := by decide

theorem test_decode_reads :
    decode 0x00002108 = .ok (.rd8u 0x21) ∧ decode 0x00002118 = .ok (.rd8s 0x21) ∧
    decode 0x00001128 = .ok (.rd16u 0x11) ∧ decode 0x0000FF38 = .ok (.rd16s 0xFF) ∧
    decode 0x00004009 = .ok (.rdver 0x40) ∧ decode 0x0000410A = .ok (.rdupt 0x41) := by decide

/-- The table's numbering of bits is the word's own, and bits above the row are zero. -/
theorem test_decode_table_word :
    decodeTableWord 32 0x34120001 = some (.crcb 0x12 0x34) ∧ decodeTableWord 32 0x100000004 = some .enc8u ∧
    decodeTableWord 32 0x0000412A = none := by decide

theorem test_encode_examples :
    encode (.crcb 0x12 0x34) = 0x34120001 ∧ encode (.wr16s 0x11) = 0x00001137 ∧
    encode (.rdupt 0x41) = 0x0000410A := by decide

/-! ### The checksum and the codec -/

/-- K2, K3, K4, K9, K10, K19h, K20a. -/
theorem test_crc_vectors :
    crcFold 0x00 0x01 = 0x31 ∧ crcFold 0x00 0x80 = 0x7A ∧ crcFold 0x00 0xFF = 0xAC ∧
    crcFold 0xAB 0xCD = 0x1D ∧ crcOver 0x11 [0x34, 0x12] = 0xF2 ∧
    crcOver 0x40 [0x01, 0x02, 0x03, 0x00] = 0xFB ∧ crcOver 0x11 [0x34, 0x12, 0xF2] = 0x00 := by decide

/-- T15, T16. -/
theorem test_read_values :
    readValue .rdver .w8 .unsigned { major := 1, minor := 2, patch := 3 } [0x00, 0x01, 0x02, 0x03] =
      some 0x00010203 ∧
    readValue .rdupt .w8 .unsigned {} [0x78, 0x56, 0x34, 0xFF] = some 0x00345678 := by decide

/-! ### Commands that complete at once -/

/-- K22. -/
theorem test_crcb : look seen (exec (.crcb 0x12 0x34) base) = some (0x20, 0x12, 0x00) := by decide
/-- K29, from an older outcome: `ACC` stays. -/
theorem test_crcb_keeps_acc : look seen (exec (.crcb 0x72 0x34) stale) = some (0x9B, 0x12, 0x72) := by decide
/-- K24. -/
theorem test_crca : look seen (exec (.crca 0x11) base) = some (0x72, 0x12, 0x72) := by decide
/-- K28, from an older `ACC`. -/
theorem test_crca_restarts : look seen (exec (.crca 0x00) stale) = some (0x00, 0x12, 0x00) := by decide
/-- K23: `ACC` is 0 from reset. -/
theorem test_crcd : look seen (exec (.crcd 0x11) base) = some (0x72, 0x12, 0x72) := by decide
/-- K25. -/
theorem test_crcd_goes_on : look seen (exec (.crcd 0x34) stale) = some (0x9B, 0x12, 0x9B) := by decide
/-- E6. -/
theorem test_enc8u : look seen (exec .enc8u (withOpnd 0x000000FF)) = some (0xFF, 0x12, 0) := by decide
/-- E7: nothing is truncated. -/
theorem test_enc8u_range : look seen (exec .enc8u (withOpnd 0x00000100)) = some (0, 0x20, 0) := by decide
/-- E15. -/
theorem test_enc8s : look seen (exec .enc8s (withOpnd 0xFFFFFF80)) = some (0x80, 0x12, 0) := by decide
/-- E17. -/
theorem test_enc8s_range : look seen (exec .enc8s (withOpnd 0xFFFFFF7F)) = some (0, 0x20, 0) := by decide
/-- E20. -/
theorem test_enc16u : look seen (exec .enc16u (withOpnd 0x000003E8)) = some (0x3E8, 0x12, 0) := by decide
/-- E25. -/
theorem test_enc16u_range : look seen (exec .enc16u (withOpnd 0xFFFFFFFF)) = some (0, 0x20, 0) := by decide
/-- E29b. -/
theorem test_enc16s : look seen (exec .enc16s (withOpnd 0xFFFFFC18)) = some (0xFC18, 0x12, 0) := by decide
/-- E30. -/
theorem test_enc16s_range : look seen (exec .enc16s (withOpnd 0x00008000)) = some (0, 0x20, 0) := by decide
/-- X5. -/
theorem test_dec8u : look seen (exec .dec8u (withOpnd 0x1234561E)) = some (0x1E, 0x12, 0) := by decide
/-- X8. -/
theorem test_dec8s : look seen (exec .dec8s (withOpnd 0x00000080)) = some (0xFFFFFF80, 0x12, 0) := by decide
/-- X13. -/
theorem test_dec16u : look seen (exec .dec16u (withOpnd 0x00008000)) = some (0x8000, 0x12, 0) := by decide
/-- X20. -/
theorem test_dec16s : look seen (exec .dec16s (withOpnd 0x0000FC18)) = some (0xFFFFFC18, 0x12, 0) := by decide
/-- X24. -/
theorem test_dec24u : look seen (exec .dec24u (withOpnd 0xFF000001)) = some (1, 0x12, 0) := by decide
/-- D13v: an illegal word completes, and `ACC` stays. -/
theorem test_illegal_word : look seen (presentCommand 0x00010007 stale) = some (0, 0x40, 0x72) := by decide

/-! ### Transaction commands: the accepting step -/

/-- S2: the frame of WR8U 0x21 of 30. -/
theorem test_wr8u : look (fun t => (t.statusWord, t.tTx, t.tN, moved t)) (exec (.wr8u 0x21) (withOpnd 30)) =
    some (0x00010001, [0x1E, 0x74], 1, ⟨.wOpen, 1, 0, false, false, 0⟩) := by decide
/-- T9. -/
theorem test_wr8s : look (fun t => (t.tVal, t.tTx)) (exec (.wr8s 0x22) (withOpnd 0xFFFFFFD8)) =
    some (-40, [0xD8, 0xB8]) := by decide
/-- T12. -/
theorem test_wr8s_range : look seen (exec (.wr8s 0x22) (withOpnd 128)) = some (0, 0x20, 0) := by decide
/-- T13. -/
theorem test_wr16u : look (fun t => (t.tTx, t.tN)) (exec (.wr16u 0x30) (withOpnd 1000)) =
    some ([0xE8, 0x03, 0xCF], 2) := by decide
/-- T8. -/
theorem test_wr16s : look (fun t => (t.tTx, t.tW, t.tS)) (exec (.wr16s 0x11) (withOpnd 4660)) =
    some ([0x34, 0x12, 0xF2], .w16, .signed) := by decide
/-- T3. -/
theorem test_rd8u : look (fun t => (t.statusWord, t.tN, t.tW, t.tS, moved t)) (exec (.rd8u 0x21) base) =
    some (0x00010001, 1, .w8, .unsigned, ⟨.rOpen, 0, 1, false, false, 0⟩) := by decide
/-- T5. -/
theorem test_rd8s : look (fun t => (t.tReg, t.tN, t.tW, t.tS)) (exec (.rd8s 0x21) base) =
    some (0x21, 1, .w8, .signed) := by decide
/-- R158. -/
theorem test_rd16u : look (fun t => (t.tReg, t.tN, t.tW, t.tS)) (exec (.rd16u 0x11) base) =
    some (0x11, 2, .w16, .unsigned) := by decide
/-- T1; the older outcome is cleared. -/
theorem test_rd16s : look (fun t => (t.tN, t.tW, t.tS, seen t)) (exec (.rd16s 0x11) stale) =
    some (2, .w16, .signed, (0, 0x00010001, 0x72)) := by decide
/-- T15. -/
theorem test_rdver : look (fun t => (t.tOp, t.tReg, t.tN, moved t)) (exec (.rdver 0x40) base) =
    some (.rdver, 0x40, 4, ⟨.rOpen, 0, 1, false, false, 0⟩) := by decide
/-- T16. -/
theorem test_rdupt : look (fun t => (t.tOp, t.tReg, t.tN, moved t)) (exec (.rdupt 0x41) base) =
    some (.rdupt, 0x41, 4, ⟨.rOpen, 0, 1, false, false, 0⟩) := by decide
/-- H4: lost, `OVR` records it, the running transaction goes on. -/
theorem test_busy_rejects :
    look (fun t => (t.statusWord, t.tReg, moved t)) (presentCommand 0x00002108 (reading .rOpen 1 [])) =
      some (0x00010005, 0x11, ⟨.rOpen, 0, 1, false, false, 0⟩) := by decide

/-! ### The Sequencer's steps, from the transactions of section 2.4 -/

/-- T7 and T9: open, wait, write and close of a write attempt. -/
theorem test_write_steps :
    look moved (step (writing .wOpen 1 [.ok []])) = some ⟨.wWait, 1, 0, false, true, 2⟩ ∧
    look moved (step (writing .wWait 1 [])) = some ⟨.wXfer, 1, 0, false, true, 2⟩ ∧
    look (fun t => (t.tXok, t.history[1]?)) (step (writing .wXfer 1 [.err])) =
      some (false, some (.write 0 0x21 [0x1E, 0x74] false)) ∧
    look moved (step { writing .wClose 1 [] with tXok := true }) = some ⟨.rOpen, 1, 1, true, false, 2⟩ ∧
    look (fun t => (moved t, t.lastErr)) (step (writing .wClose 1 [])) =
      some (⟨.wOpen, 2, 0, false, false, 2⟩, .transport) := by decide

/-- T4: a failed open is one step; T17: an answer of the wrong length is a failed transfer. -/
theorem test_read_steps :
    look (fun t => (moved t, t.attempts)) (step (reading .rOpen 1 [.err])) =
      some (⟨.rOpen, 0, 2, false, false, 1⟩, 2) ∧
    look (fun t => (t.tXok, t.rxbuf)) (step (reading .rXfer 1 [.ok [0x34, 0x12, 0xF2]])) =
      some (true, [0x34, 0x12, 0xF2]) ∧
    look (fun t => (t.tXok, t.history)) (step (reading .rXfer 1 [.ok [0x34, 0xF2]])) =
      some (false, [.read 0 0x11 3 (some [0x34, 0xF2])]) := by decide

/-- T1, T2, T3: the check after the close. -/
theorem test_read_close :
    look seen (step (received (reading .rClose 1 []) [0x34, 0x12, 0xF2])) = some (0x1234, 0x00010012, 0) ∧
    look (fun t => (moved t, t.lastErr)) (step (received (reading .rClose 1 []) [0x34, 0x12, 0xF3])) =
      some (⟨.rOpen, 0, 2, false, false, 1⟩, .checksum) ∧
    look seen (step (received (reading .rClose 3 []) [0x34, 0x12, 0xF3])) = some (0, 0x00030230, 0) := by decide

/-- S2 and T14: a read-back that verifies, and one that reads 31. -/
theorem test_verify :
    look seen (step (received (verifying .rClose 1 1 []) [0x1E, 0x74])) = some (0, 0x00010010, 0) ∧
    look seen (step (received (verifying .rClose 3 1 []) [0x1F, 0x45])) = some (0, 0x00030330, 0) := by decide

/-- T10: a read-back that runs out ends its write attempt, and `ATTEMPTS` does not count it. -/
theorem test_nested_exhaustion :
    look (fun t => (moved t, t.attempts)) (step (verifying .rOpen 1 1 [.err])) =
      some (⟨.rOpen, 1, 2, true, false, 2⟩, 1) ∧
    look (fun t => (moved t, t.attempts)) (step (verifying .rOpen 1 3 [.err])) =
      some (⟨.wOpen, 2, 0, false, false, 2⟩, 2) ∧
    look seen (step (verifying .rOpen 3 3 [.err])) = some (0, 0x00030130, 0) := by decide

/-! ### The Host's moves (H1 to H9) -/

/-- H1. -/
theorem test_host_reads_at_reset :
    look State.portData (hostRead 32 0x0C stale) = some stale.statusWord ∧
    look State.portData (hostRead 32 0x0C base) = some 0 ∧
    look State.portData (hostRead 32 0x00 stale) = some 0 ∧
    look State.portData (hostRead 32 0x10 stale) = some 0x72 := by decide

/-- H2, H3, H5. -/
theorem test_host_writes :
    look seen (hostWrite 32 0x08 0x12345678 stale) = some (seen stale) ∧
    look seen (hostWrite 32 0x0C 0xFFFFFFFF stale) = some (seen stale) ∧
    look (fun t => (t.opnd, t.tVal, t.tTx)) (hostWrite 32 0x04 5 (writing .wWait 1 [])) =
      some (5, 30, [0x1E, 0x74]) := by decide

/-- H7. -/
theorem test_host_access_refused :
    hostRead 8 0x00 base = .refused .hostAccess ∧ hostRead 32 0x02 base = .refused .hostAccess ∧
    hostWrite 32 0x14 0 base = .refused .hostAccess ∧ hostWrite 32 0x1C 0 base = .refused .hostAccess :=
  ⟨rfl, rfl, rfl, rfl⟩

/-- H9: what the Host sees while T1 runs. -/
theorem test_poll_while_busy : look seen (hostPoll (reading .rXfer 1 [])) = some (0, 0x00010001, 0) := by decide

/-- R182: reset of an idle block. -/
theorem test_reset_move : look seen (hostStep .reset stale) = some (0, 0, 0) := by decide

/-- R47: the window's addresses. -/
theorem test_window :
    windowOffset { hostBase := 0x1000 } 0x100C = some 0x0C ∧ windowOffset { hostBase := 0x1000 } 0x101F = some 0x1F ∧
    windowOffset { hostBase := 0x1000 } 0x1020 = none ∧ windowOffset { hostBase := 0x1000 } 0x0FFF = none := by
  decide

/-- R146, log 4 and log 5: with nothing presented the idle block stays; a presented word runs at the next step. -/
theorem test_step_from_reset :
    look (fun t => t.seqState) (step State.reset) = some .idle ∧
    look seen (step (State.reset.withFetchWord 32 0x34120001)) = some (0x20, 0x12, 0x00) := by decide

/-! ### Witnesses: states and operands that meet the hypotheses of each statement -/

/-- The state `s` with a schedule. -/
def scheduled (s : State) (moves : List Move) : State := { s with schedule := moves }

theorem base_good : base.Good where
  session_iff := by decide
  idle_clear := by decide
  write_loop := by decide
  read_loop := by decide
  nested_write := by decide
  top_read := by decide
  payload_length := by decide
  frame := by decide
  received := by decide
  running := by decide
  running_attempts := by decide
  valid_ok := by decide
  no_value := by decide

/-- An idle block with `OPND` = 30 and answers to come, at a schedule of its own. -/
def ready (answers : List Draw) : State := { base with opnd := 30, draws := answers }

theorem ready_good (answers : List Draw) : (ready answers).Good where
  session_iff := rfl
  idle_clear _ := ⟨rfl, rfl, rfl⟩
  write_loop h := by cases h
  read_loop h := by cases h
  nested_write h := by cases h
  top_read h := by cases h
  payload_length h := by cases h
  frame h := by cases h
  received h := by cases h
  running h := by cases h
  running_attempts h := by cases h
  valid_ok h := by cases h
  no_value _ := rfl

/-- The write of S2 at its last attempt, about to open. -/
theorem writing_good : (writing .wOpen 3 [.err]).Good where
  session_iff := by decide
  idle_clear := by decide
  write_loop := by decide
  read_loop := by decide
  nested_write := by decide
  top_read := by decide
  payload_length := by decide
  frame _ _ := ⟨[0x1E], by decide, by decide⟩
  received := by decide
  running := by decide
  running_attempts := by decide
  valid_ok := by decide
  no_value := by decide

/-- The read of S1 at its first attempt, about to open, at any schedule. -/
theorem reading_good (moves : List Move) : (scheduled (reading .rOpen 1 [.err]) moves).Good where
  session_iff := rfl
  idle_clear h := by cases h
  write_loop h := by cases h
  read_loop _ := by simp [scheduled, reading, base, State.reset]
  nested_write h := by cases h
  top_read _ _ := rfl
  payload_length _ := rfl
  frame _ h := by cases h
  received h := by cases h
  running _ := ⟨rfl, rfl, rfl⟩
  running_attempts _ := rfl
  valid_ok h := by cases h
  no_value _ := rfl

theorem witness_CrcZeroLawAndSensitivity :
    (0x11 : Byte) ≠ 0x10 ∧ crcOver 0x11 [0x34, 0x12] = 0xF2 ∧ crcOver 0x10 [0x34, 0x12] = 0xB4 ∧
    (0x34 : Byte) ≠ 0x35 ∧ crcOver 0x11 ([] ++ 0x35 :: [0x12]) = 0x06 := by decide

theorem witness_EncodeRangeAndBytes :
    encodeValue .w8 .unsigned 255 = some [0xFF] ∧ encodeValue .w8 .signed (-128) = some [0x80] ∧
    encodeValue .w16 .unsigned 65535 = some [0xFF, 0xFF] ∧
    encodeValue .w16 .signed (-32768) = some [0x00, 0x80] := by decide

theorem witness_CodecRoundTrip :
    encodeValue .w8 .signed (-40) = some [0xD8] ∧ encodeValue .w16 .signed 4660 = some [0x34, 0x12] ∧
    [0xD8#8].length = payloadBytes .w8 ∧ [0x18#8, 0xFC#8].length = payloadBytes .w16 := by decide

theorem witness_VerifyByValueIsVerifyByBytes :
    encodeValue .w16 .signed 4660 = some [0x34, 0x12] ∧ [0x35#8, 0x12#8].length = payloadBytes .w16 := by decide

theorem witness_ReadValuePlacement :
    [0xD8#8].length = payloadBytes .w8 ∧ [0x00#8, 0x80#8].length = payloadBytes .w16 ∧
    [0x01#8, 0x02#8, 0x03#8, 0x00#8].length = 4 := by decide

theorem witness_DecodeEncode :
    (Instr.crcb 0xFF 0xFF).wellFormed = true ∧ (Instr.wr16s 0xFF).wellFormed = true ∧
    Instr.dec24u.wellFormed = true := by decide

theorem witness_DecodeIsOpcodeMap : decode 0xFFFF0001 = .ok (.crcb 0xFF 0xFF) := by decide

theorem witness_StepRunsDecoded :
    (scheduled base [.host (.write 32 0x00 0x00001138)]).schedule = [.host (.write 32 0x00 0x00001138)] ∧
    decode 0x00001138 = .ok (.rd16s 0x11) := by decide

theorem witness_BusyRejectsEveryCommand :
    (writing .wClose 1 []).busy = true ∧ (reading .rOpen 1 []).busy = true := by decide

theorem witness_IllegalWordCompletes :
    stale.busy = false ∧ (∀ r ∈ opcodeMap, 0x00010007#32 &&& r.mask ≠ r.pattern) ∧
    (∀ r ∈ opcodeMap, 0x00000041#32 &&& r.mask ≠ r.pattern) := by decide

theorem witness_CrcbResult : stale.busy = false := by decide
theorem witness_CrcaResult : stale.busy = false := by decide
theorem witness_CrcdResult : stale.busy = false ∧ stale.acc = 0x72 := by decide

theorem witness_CrcStreamIsOver :
    (scheduled stale (crcover 0x11 [0x34, 0x12] ++ [poll])).busy = false ∧
    (scheduled stale (crcover 0x11 [0x34, 0x12] ++ [poll])).schedule = crcover 0x11 [0x34, 0x12] ++ [poll] := by
  decide

/-- Both outcomes, at the bounds. -/
theorem witness_EncodeCommands8 :
    (withOpnd 255).busy = false ∧ (withOpnd 255).opnd.toInt = 255 ∧ (withOpnd 256).opnd.toInt = 256 ∧
    (withOpnd 0xFFFFFF80).opnd.toInt = -128 ∧ (withOpnd 0xFFFFFF7F).opnd.toInt = -129 := by decide

theorem witness_EncodeCommands16 :
    (withOpnd 65535).busy = false ∧ (withOpnd 65535).opnd.toInt = 65535 ∧
    (withOpnd 65536).opnd.toInt = 65536 ∧ (withOpnd 0xFFFF8000).opnd.toInt = -32768 ∧
    (withOpnd 0xFFFF7FFF).opnd.toInt = -32769 := by decide

theorem witness_DecodeCommands : stale.busy = false := by decide

theorem witness_WriteStarts :
    (withOpnd 0xFFFFFFD8).busy = false ∧
    encodeValue .w8 .signed (withOpnd 0xFFFFFFD8).opnd.toInt = some [0xD8] ∧
    encodeValue .w8 .unsigned (withOpnd 0xFFFFFFD8).opnd.toInt = none := by decide

theorem witness_WriteFrameBytes :
    (withOpnd 30).busy = false ∧
    (∃ t, exec (.wr8u 0x21) (withOpnd 30) = .next t ∧ t.busy = true) ∧
    (∃ t, exec (.wr8s 0x21) (withOpnd 30) = .next t ∧ t.busy = true) ∧
    (∃ t, exec (.wr16u 0x21) (withOpnd 30) = .next t ∧ t.busy = true) ∧
    (∃ t, exec (.wr16s 0x21) (withOpnd 30) = .next t ∧ t.busy = true) :=
  ⟨rfl, ⟨_, rfl, rfl⟩, ⟨_, rfl, rfl⟩, ⟨_, rfl, rfl⟩, ⟨_, rfl, rfl⟩⟩

theorem witness_WriteOutOfRange :
    (withOpnd 256).busy = false ∧ ¬(0 ≤ (withOpnd 256).opnd.toInt ∧ (withOpnd 256).opnd.toInt ≤ 255) ∧
    ¬(-128 ≤ (withOpnd 128).opnd.toInt ∧ (withOpnd 128).opnd.toInt ≤ 127) ∧
    ¬(0 ≤ (withOpnd 65536).opnd.toInt ∧ (withOpnd 65536).opnd.toInt ≤ 65535) ∧
    ¬(-32768 ≤ (withOpnd 32768).opnd.toInt ∧ (withOpnd 32768).opnd.toInt ≤ 32767) := by decide

theorem witness_ReadStarts : stale.busy = false := by decide
theorem witness_SpecialReadsStart : stale.busy = false := by decide

theorem witness_AnswersAreDraws : stale.draws = [.err] ∧ base.draws = [] := by decide

theorem witness_OpenSteps :
    ((writing .wOpen 1 [.ok []]).draw.1 = .ok [] ∧ (writing .wOpen 1 [.ok []]).seqState = .wOpen) ∧
    ((writing .wOpen 3 [.err]).draw.1 = .err ∧ (writing .wOpen 3 [.err]).seqState = .wOpen) ∧
    ((reading .rOpen 1 [.ok []]).draw.1 = .ok [] ∧ (reading .rOpen 1 [.ok []]).seqState = .rOpen) ∧
    ((verifying .rOpen 1 3 [.err]).draw.1 = .err ∧ (verifying .rOpen 1 3 [.err]).seqState = .rOpen) := by decide

theorem witness_WaitSteps :
    (writing .wWait 1 []).seqState = .wWait ∧ (reading .rWait 1 []).seqState = .rWait := by decide

theorem witness_TransferSteps :
    ((writing .wXfer 1 [.ok []]).draw.1 = .ok [] ∧ (writing .wXfer 1 [.ok []]).seqState = .wXfer) ∧
    ((writing .wXfer 1 [.err]).draw.1 = .err ∧ (writing .wXfer 1 [.err]).seqState = .wXfer) ∧
    ((reading .rXfer 1 [.ok [0x34, 0x12, 0xF2]]).draw.1 = .ok [0x34, 0x12, 0xF2] ∧
      (reading .rXfer 1 []).seqState = .rXfer ∧ [0x34#8, 0x12#8, 0xF2#8].length = (reading .rXfer 1 []).tN + 1) ∧
    ((reading .rXfer 1 [.ok [0x34, 0xF2]]).draw.1 = .ok [0x34, 0xF2] ∧
      [0x34#8, 0xF2#8].length ≠ (reading .rXfer 1 []).tN + 1) ∧
    (reading .rXfer 1 [.err]).draw.1 = .err := by decide

theorem witness_WriteCloseStep :
    (writing .wClose 1 []).seqState = .wClose ∧ (writing .wClose 1 []).tXok = false ∧
    (received (writing .wClose 1 []) []).seqState = .wClose ∧ (received (writing .wClose 1 []) []).tXok = true := by
  decide

/-- A failed transfer, a bad checksum, and a good top-level frame. -/
theorem witness_ReadCloseStep :
    ((reading .rClose 1 []).seqState = .rClose ∧ (reading .rClose 1 []).tXok = false) ∧
    ((received (reading .rClose 1 []) ([0x34, 0x12] ++ [0xF3])).rxbuf = [0x34, 0x12] ++ [0xF3] ∧
      (received (reading .rClose 1 []) []).tXok = true ∧ [0x34#8, 0x12#8].length = (reading .rClose 1 []).tN ∧
      crcOver (reading .rClose 1 []).tReg [0x34, 0x12] ≠ 0xF3) ∧
    (crcOver (reading .rClose 1 []).tReg [0x34, 0x12] = 0xF2 ∧ (reading .rClose 1 []).nested = false ∧
      readValue .rd .w16 .signed {} [0x34, 0x12] = some 0x1234) := by decide

/-- Both clauses: the read-back is the value written, and 31. -/
theorem witness_WriteVerifyStep :
    (received (verifying .rClose 1 1 []) ([0x1E] ++ [0x74])).seqState = .rClose ∧
    (received (verifying .rClose 1 1 []) ([0x1E] ++ [0x74])).tXok = true ∧
    (received (verifying .rClose 1 1 []) ([0x1E] ++ [0x74])).rxbuf = [0x1E] ++ [0x74] ∧
    [0x1E#8].length = (verifying .rClose 1 1 []).tN ∧ (verifying .rClose 1 1 []).nested = true ∧
    crcOver (verifying .rClose 1 1 []).tReg [0x1E] = 0x74 ∧
    decodeValue (verifying .rClose 1 1 []).tW (verifying .rClose 1 1 []).tS [0x1E] = some 30 ∧
    (30 : Int) = (verifying .rClose 1 1 []).tVal ∧
    crcOver (verifying .rClose 1 1 []).tReg [0x1F] = 0x45 ∧
    decodeValue (verifying .rClose 1 1 []).tW (verifying .rClose 1 1 []).tS [0x1F] = some 31 ∧
    (31 : Int) ≠ (verifying .rClose 1 1 []).tVal := by decide

/-- Every clause, with the budget N = 3 not yet and just spent. -/
theorem witness_AttemptEnds :
    (writing .wClose 2 []).att < (writing .wClose 2 []).cfg.maxRetries ∧
    (writing .wClose 3 []).cfg.maxRetries ≤ (writing .wClose 3 []).att ∧
    ((reading .rClose 2 []).ratt < (reading .rClose 2 []).cfg.maxRetries ∧
      (reading .rClose 2 []).nested = false) ∧
    ((verifying .rClose 1 2 []).ratt < (verifying .rClose 1 2 []).cfg.maxRetries ∧
      (verifying .rClose 1 2 []).nested = true) ∧
    ((reading .rClose 3 []).cfg.maxRetries ≤ (reading .rClose 3 []).ratt ∧
      (reading .rClose 3 []).nested = false) ∧
    ((verifying .rClose 1 3 []).cfg.maxRetries ≤ (verifying .rClose 1 3 []).ratt ∧
      (verifying .rClose 1 3 []).nested = true) := by decide

/-- An offset of each register, and accesses of a wrong width, between words, and reserved. -/
theorem witness_HostAccessAdmission :
    (∀ offset ∈ [0x00, 0x04, 0x08, 0x0C, 0x10], offset % 4 = 0) ∧
    ¬(16 = 32 ∧ 0x04 % 4 = 0 ∧ 0x04 ∈ [0x00, 0x04, 0x08, 0x0C, 0x10]) ∧
    ¬(32 = 32 ∧ 0x02 % 4 = 0 ∧ 0x02 ∈ [0x00, 0x04, 0x08, 0x0C, 0x10]) ∧
    ¬(32 = 32 ∧ 0x14 % 4 = 0 ∧ 0x14 ∈ [0x00, 0x04, 0x08, 0x0C, 0x10]) := by decide

theorem witness_ResetMove : stale.busy = false ∧ (reading .rOpen 1 []).busy = true := by decide

/-- A step of the Sequencer that ends an attempt, and a command, from good states. -/
theorem witness_StepKeepsGood :
    ((writing .wOpen 3 [.err]).Good ∧ ∃ t, step (writing .wOpen 3 [.err]) = .next t) ∧
    (base.Good ∧ ∃ t, step (base.withFetchWord 32 0x00001138) = .next t) :=
  ⟨⟨writing_good, _, rfl⟩, base_good, _, rfl⟩

/-- A state whose step goes on, and one for each move of the Host that has no step. -/
theorem witness_GoodNeverFaults :
    (base.Good ∧ ∃ t, step base = .next t) ∧
    ((scheduled (reading .rOpen 1 [.err]) [.host (.read 8 0x00)]).Good ∧
      step (scheduled (reading .rOpen 1 [.err]) [.host (.read 8 0x00)]) = .refused .hostAccess) ∧
    ((scheduled (reading .rOpen 1 [.err]) [.host .reset]).Good ∧
      step (scheduled (reading .rOpen 1 [.err]) [.host .reset]) = .refused .resetWhileBusy) :=
  ⟨⟨base_good, _, rfl⟩, ⟨reading_good _, rfl⟩, reading_good _, rfl⟩

theorem witness_StepKeepsDiscipline :
    (reading .rOpen 1 [.ok []]).Disciplined ∧ ∃ t, step (reading .rOpen 1 [.ok []]) = .next t :=
  ⟨rfl, _, rfl⟩

theorem witness_HistoryGrowsByAtMostOne :
    ∃ t, step (writing .wWait 1 []) = .next t ∧ t.history = (writing .wWait 1 []).history ++ [.wait 0] :=
  ⟨_, rfl, rfl⟩

theorem witness_AccWrittenByStreamAlone :
    (∃ t, exec (.rd8u 0x21) stale = .next t) ∧
    (∃ t, step (base.withFetchWord 32 0x00001102) = .next t ∧
      t.acc ≠ (base.withFetchWord 32 0x00001102).acc) ∧
    (∃ t, step (scheduled stale [.host .reset]) = .next t ∧ t.acc ≠ (scheduled stale [.host .reset]).acc) :=
  ⟨⟨_, rfl⟩, ⟨_, rfl, by decide⟩, _, rfl, by decide⟩

/-- Set while busy, cleared by an accepted command, cleared by reset. -/
theorem witness_OvrWrittenByCommandsAlone :
    (∃ t, step ((reading .rOpen 1 []).withFetchWord 32 0x00000004) = .next t ∧
      t.ovr ≠ ((reading .rOpen 1 []).withFetchWord 32 0x00000004).ovr) ∧
    (∃ t, step (stale.withFetchWord 32 0x00000004) = .next t ∧
      t.ovr ≠ (stale.withFetchWord 32 0x00000004).ovr) ∧
    (∃ t, step (scheduled stale [.host .reset]) = .next t ∧ t.ovr ≠ (scheduled stale [.host .reset]).ovr) :=
  ⟨⟨_, rfl, by decide⟩, ⟨_, rfl, by decide⟩, _, rfl, by decide⟩

theorem witness_LatchesHeldWhileBusy :
    (scheduled (writing .wWait 1 []) [.host (.write 32 0x04 5)]).busy = true ∧
    ∃ t, step (scheduled (writing .wWait 1 []) [.host (.write 32 0x04 5)]) = .next t :=
  ⟨rfl, _, rfl⟩

theorem witness_OutcomeStandsUntilNextCommand :
    (scheduled stale [.host (.write 32 0x04 5)]).busy = false ∧
    (∃ t, step (scheduled stale [.host (.write 32 0x04 5)]) = .next t) ∧
    (∀ v rest, (scheduled stale [.host (.write 32 0x04 5)]).schedule ≠ .host (.write 32 0x00 v) :: rest) ∧
    (∀ rest, (scheduled stale [.host (.write 32 0x04 5)]).schedule ≠ .host .reset :: rest) :=
  ⟨rfl, ⟨_, rfl⟩, fun _ _ h => by simp [scheduled] at h, fun _ h => by simp [scheduled] at h⟩

/-- A step that ends a transaction, and one that does not. -/
theorem witness_TransactionEndsByCode :
    ((writing .wOpen 3 [.err]).Good ∧ (writing .wOpen 3 [.err]).busy = true ∧
      ∃ t, step (writing .wOpen 3 [.err]) = .next t ∧ t.busy = false) ∧
    ((scheduled (reading .rOpen 1 [.err]) []).Good ∧ (scheduled (reading .rOpen 1 [.err]) []).busy = true ∧
      ∃ t, step (scheduled (reading .rOpen 1 [.err]) []) = .next t ∧ t.busy = true) :=
  ⟨⟨writing_good, rfl, _, rfl, rfl⟩, reading_good _, rfl, _, rfl, rfl⟩

/-- A write and a read. -/
theorem witness_TransactionsTerminate :
    ((writing .wOpen 3 [.err]).Good ∧ (writing .wOpen 3 [.err]).busy = true ∧
      (writing .wOpen 3 [.err]).schedule = []) ∧
    ((scheduled (reading .rOpen 1 [.err]) []).Good ∧ (scheduled (reading .rOpen 1 [.err]) []).busy = true ∧
      (scheduled (reading .rOpen 1 [.err]) []).schedule = []) :=
  ⟨⟨writing_good, rfl, rfl⟩, reading_good _, rfl, rfl⟩

theorem witness_ReadRunsReadLoop :
    (ready [.err]).Good ∧ (ready [.err]).busy = false ∧ (ready [.err]).schedule = [] ∧
    Instr.rdver 0x40 ∈ [Instr.rd8u 0x40, .rd8s 0x40, .rd16u 0x40, .rd16s 0x40, .rdver 0x40, .rdupt 0x40] ∧
    (∃ t, exec (.rd8u 0x40) (ready [.err]) = .next t) ∧ (∃ t, exec (.rd8s 0x40) (ready [.err]) = .next t) ∧
    (∃ t, exec (.rd16u 0x40) (ready [.err]) = .next t) ∧ (∃ t, exec (.rd16s 0x40) (ready [.err]) = .next t) ∧
    (∃ t, exec (.rdver 0x40) (ready [.err]) = .next t) ∧ ∃ t, exec (.rdupt 0x40) (ready [.err]) = .next t :=
  ⟨ready_good _, rfl, rfl, by decide, ⟨_, rfl⟩, ⟨_, rfl⟩, ⟨_, rfl⟩, ⟨_, rfl⟩, ⟨_, rfl⟩, _, rfl⟩

theorem witness_WriteRunsWriteLoop :
    (ready [.err]).Good ∧ (ready [.err]).busy = false ∧ (ready [.err]).schedule = [] ∧
    Instr.wr16s 0x21 ∈ [Instr.wr8u 0x21, .wr8s 0x21, .wr16u 0x21, .wr16s 0x21] ∧
    (∃ t, exec (.wr8u 0x21) (ready [.err]) = .next t ∧ t.busy = true) ∧
    (∃ t, exec (.wr8s 0x21) (ready [.err]) = .next t ∧ t.busy = true) ∧
    (∃ t, exec (.wr16u 0x21) (ready [.err]) = .next t ∧ t.busy = true) ∧
    ∃ t, exec (.wr16s 0x21) (ready [.err]) = .next t ∧ t.busy = true :=
  ⟨ready_good _, rfl, rfl, by decide, ⟨_, rfl, rfl⟩, ⟨_, rfl, rfl⟩, ⟨_, rfl, rfl⟩, _, rfl, rfl⟩

/-- S2 with a read after it. -/
theorem witness_FaithfulStore :
    (ready [.ok [], .ok [], .ok [], .ok [0x1E, 0x74], .ok [], .ok [0x1E, 0x74]]).Good ∧
    (ready []).busy = false ∧ (ready []).schedule = [] ∧
    encodeValue .w8 .unsigned (ready []).opnd.toInt = some [0x1E] ∧
    [0x1E#8] ++ [crcOver 0x21 [0x1E]] = [0x1E, 0x74] ∧
    (∃ t, exec (writeCommand .w8 .unsigned 0x21)
      (ready [.ok [], .ok [], .ok [], .ok [0x1E, 0x74], .ok [], .ok [0x1E, 0x74]]) = .next t) :=
  ⟨ready_good _, rfl, rfl, by decide, by decide, _, rfl⟩

end Sys2Proof.Tests
end

section
/-!
PROOFS. What a step does to the configuration and to the event history (R9, R64): a command, a host access, a reset
and the end of an attempt keep both; each Sequencer step of a busy block adds the one event of its primitive.
-/

namespace Sys2Proof.Machine

/-- `t` has the configuration and the event history of `s`. -/
structure State.KeepsHistory (s t : State) : Prop where
  cfg : t.cfg = s.cfg
  history : t.history = s.history

/-- `t` has the configuration of `s`, and its event history with one event more at the end. -/
structure State.AddsEvent (s t : State) : Prop where
  cfg : t.cfg = s.cfg
  history : ∃ e, t.history = s.history ++ [e]

theorem State.KeepsHistory.trans {s t u : State} (hst : s.KeepsHistory t) (htu : t.KeepsHistory u) :
    s.KeepsHistory u :=
  ⟨htu.cfg.trans hst.cfg, htu.history.trans hst.history⟩

theorem State.AddsEvent.trans_keeps {s t u : State} (hst : s.AddsEvent t) (htu : t.KeepsHistory u) :
    s.AddsEvent u := by
  obtain ⟨e, he⟩ := hst.history
  exact ⟨htu.cfg.trans hst.cfg, e, htu.history.trans he⟩

/-! ### The primitives add one event -/

theorem tOpen_addsEvent (s : State) : s.AddsEvent s.tOpen.2 := ⟨s.tOpen_cfg, _, s.tOpen_history⟩

theorem wait_addsEvent (s : State) : s.AddsEvent s.wait := ⟨s.wait_cfg, _, s.wait_history⟩

theorem tWriteBlock_addsEvent (s : State) (reg : Byte) (bytes : List Byte) :
    s.AddsEvent (s.tWriteBlock reg bytes).2 :=
  ⟨s.tWriteBlock_cfg reg bytes, _, s.tWriteBlock_history reg bytes⟩

theorem tReadBlock_addsEvent (s : State) (reg : Byte) (n : Nat) : s.AddsEvent (s.tReadBlock reg n).2 :=
  ⟨s.tReadBlock_cfg reg n, _, s.tReadBlock_history reg n⟩

theorem tClose_addsEvent (s : State) : s.AddsEvent s.tClose := ⟨s.tClose_cfg, _, s.tClose_history⟩

/-! ### The ends of attempts and the check of a frame keep the history -/

theorem takeAnswer_keepsHistory (s : State) (a : Option (List Byte)) : s.KeepsHistory (s.takeAnswer a) :=
  ⟨s.takeAnswer_cfg a, s.takeAnswer_history a⟩

theorem State.KeepsHistory.completeTransaction {s t : State} (h : s.KeepsHistory t) (c : Code) (r : Word)
    (v : Bool) : s.KeepsHistory (t.completeTransaction c r v) :=
  ⟨h.cfg, h.history⟩

theorem State.KeepsHistory.writeAttemptEnd {s t : State} (h : s.KeepsHistory t) :
    s.KeepsHistory t.writeAttemptEnd := by
  rcases Nat.lt_or_ge t.att t.cfg.maxRetries with again | last
  · rw [writeAttemptEnd_again again]
    exact ⟨h.cfg, h.history⟩
  · rw [writeAttemptEnd_last last]
    exact h.completeTransaction ..

theorem State.KeepsHistory.readFailed {s t : State} (h : s.KeepsHistory t) :
    s.KeepsHistory t.readFailed := by
  cases hn : t.nested with
  | false =>
    rw [readFailed_top hn]
    exact h.completeTransaction ..
  | true =>
    rw [readFailed_nested hn]
    exact .writeAttemptEnd ⟨h.cfg, h.history⟩

theorem State.KeepsHistory.readAttemptEnd {s t : State} (h : s.KeepsHistory t) :
    s.KeepsHistory t.readAttemptEnd := by
  rcases Nat.lt_or_ge t.ratt t.cfg.maxRetries with again | last
  · rw [readAttemptEnd_again again]
    exact ⟨h.cfg, h.history⟩
  · rw [readAttemptEnd_last last]
    exact h.readFailed

theorem writeVerify_keepsHistory {s t : State} {p : List Byte} (h : s.writeVerify p = .next t) :
    s.KeepsHistory t := by
  unfold State.writeVerify at h
  split at h
  · cases h
  · split at h <;> cases h
    · exact .completeTransaction ⟨rfl, rfl⟩ _ _ _
    · exact .writeAttemptEnd ⟨rfl, rfl⟩

theorem readSucceeded_keepsHistory {s t : State} {p : List Byte} (h : s.readSucceeded p = .next t) :
    s.KeepsHistory t := by
  unfold State.readSucceeded at h
  split at h
  · exact writeVerify_keepsHistory h
  · split at h <;> cases h
    exact .completeTransaction ⟨rfl, rfl⟩ _ _ _

theorem checkFrame_keepsHistory {s t : State} (h : s.checkFrame = .next t) : s.KeepsHistory t := by
  unfold State.checkFrame at h
  split at h
  · cases h
  · split at h
    · exact readSucceeded_keepsHistory h
    · cases h
      exact .readAttemptEnd ⟨rfl, rfl⟩

/-! ### Each Sequencer step adds one event -/

theorem stepWOpen_addsEvent {s t : State} (h : stepWOpen s = .next t) : s.AddsEvent t := by
  unfold stepWOpen at h
  split at h <;> cases h
  · exact (tOpen_addsEvent s).trans_keeps ⟨rfl, rfl⟩
  · exact (tOpen_addsEvent s).trans_keeps (.writeAttemptEnd ⟨rfl, rfl⟩)

theorem stepWWait_addsEvent {s t : State} (h : stepWWait s = .next t) : s.AddsEvent t := by
  cases h
  exact (wait_addsEvent s).trans_keeps ⟨rfl, rfl⟩

theorem stepWXfer_addsEvent {s t : State} (h : stepWXfer s = .next t) : s.AddsEvent t := by
  cases h
  exact (tWriteBlock_addsEvent s s.tReg s.tTx).trans_keeps ⟨rfl, rfl⟩

theorem stepWClose_addsEvent {s t : State} (h : stepWClose s = .next t) : s.AddsEvent t := by
  unfold stepWClose at h
  split at h <;> cases h
  · exact (tClose_addsEvent s).trans_keeps ⟨rfl, rfl⟩
  · exact (tClose_addsEvent s).trans_keeps (.writeAttemptEnd ⟨rfl, rfl⟩)

theorem stepROpen_addsEvent {s t : State} (h : stepROpen s = .next t) : s.AddsEvent t := by
  unfold stepROpen at h
  split at h <;> cases h
  · exact (tOpen_addsEvent s).trans_keeps ⟨rfl, rfl⟩
  · exact (tOpen_addsEvent s).trans_keeps (.readAttemptEnd ⟨rfl, rfl⟩)

theorem stepRWait_addsEvent {s t : State} (h : stepRWait s = .next t) : s.AddsEvent t := by
  cases h
  exact (wait_addsEvent s).trans_keeps ⟨rfl, rfl⟩

theorem stepRXfer_addsEvent {s t : State} (h : stepRXfer s = .next t) : s.AddsEvent t := by
  cases h
  exact (tReadBlock_addsEvent s s.tReg (s.tN + 1)).trans_keeps
    (.trans (takeAnswer_keepsHistory _ _) ⟨rfl, rfl⟩)

theorem stepRClose_addsEvent {s t : State} (h : stepRClose s = .next t) : s.AddsEvent t := by
  unfold stepRClose at h
  split at h
  · exact (tClose_addsEvent s).trans_keeps (checkFrame_keepsHistory h)
  · cases h
    exact (tClose_addsEvent s).trans_keeps (.readAttemptEnd ⟨rfl, rfl⟩)

/-- A Sequencer step of a busy block that answers a next state adds one event (R64, R66). -/
theorem sequencerStep_addsEvent {s t : State} (hbusy : s.busy = true) (h : sequencerStep s = .next t) :
    s.AddsEvent t := by
  rw [State.busy_iff] at hbusy
  unfold sequencerStep at h
  generalize s.seqState = q at hbusy h
  cases q with
  | idle => exact absurd rfl hbusy
  | wOpen => exact stepWOpen_addsEvent h
  | wWait => exact stepWWait_addsEvent h
  | wXfer => exact stepWXfer_addsEvent h
  | wClose => exact stepWClose_addsEvent h
  | rOpen => exact stepROpen_addsEvent h
  | rWait => exact stepRWait_addsEvent h
  | rXfer => exact stepRXfer_addsEvent h
  | rClose => exact stepRClose_addsEvent h

theorem sequencerStep_keepsHistory_or_addsEvent {s t : State} (h : sequencerStep s = .next t) :
    s.KeepsHistory t ∨ s.busy = true ∧ s.AddsEvent t := by
  cases hb : s.busy with
  | true => exact .inr ⟨rfl, sequencerStep_addsEvent hb h⟩
  | false =>
    rw [sequencerStep_idle (s.not_busy_iff.mp hb)] at h
    cases h
    exact .inl ⟨rfl, rfl⟩

/-! ### The Host's moves keep the history -/

theorem accept_keepsHistory {s t : State} {body : State → State} (h : s.accept body = .next t)
    (hbody : ∀ u : State, u.KeepsHistory (body u)) : s.KeepsHistory t := by
  obtain ⟨_, rfl⟩ | ⟨_, rfl⟩ := accept_cases h
  · exact ⟨rfl, rfl⟩
  · exact .trans ⟨s.cleared_cfg, s.cleared_history⟩ (hbody s.cleared)

theorem encodeOpnd_keepsHistory (w : Width) (sg : Signedness) (s : State) :
    s.KeepsHistory (s.encodeOpnd w sg) := by
  unfold State.encodeOpnd
  split <;> exact ⟨rfl, rfl⟩

theorem startWrite_keepsHistory (w : Width) (sg : Signedness) (reg : Byte) (s : State) :
    s.KeepsHistory (s.startWrite w sg reg) := by
  unfold State.startWrite
  split <;> exact ⟨rfl, rfl⟩

/-- A command calls no transport primitive: it keeps the configuration and the history (R66). -/
theorem exec_keepsHistory {i : Instr} {s t : State} (h : exec i s = .next t) : s.KeepsHistory t := by
  cases i with
  | enc8u | enc8s | enc16u | enc16s => exact accept_keepsHistory h (encodeOpnd_keepsHistory _ _)
  | wr8u reg | wr8s reg | wr16u reg | wr16s reg =>
    exact accept_keepsHistory h (startWrite_keepsHistory _ _ reg)
  | _ => exact accept_keepsHistory h fun _ => ⟨rfl, rfl⟩

theorem presentCommand_keepsHistory {w : Word} {s t : State} (h : presentCommand w s = .next t) :
    s.KeepsHistory t := by
  cases hd : decode w with
  | ok i =>
    rw [presentCommand_ok hd] at h
    exact exec_keepsHistory h
  | error e =>
    rw [presentCommand_error hd] at h
    exact accept_keepsHistory h fun _ => ⟨rfl, rfl⟩

theorem hostRead_keepsHistory {width offset : Nat} {s t : State} (h : hostRead width offset s = .next t) :
    s.KeepsHistory t := by
  unfold hostRead at h
  split at h <;> cases h
  exact ⟨rfl, rfl⟩

theorem hostWrite_keepsHistory {width offset : Nat} {v : Word} {s t : State}
    (h : hostWrite width offset v s = .next t) : s.KeepsHistory t := by
  unfold hostWrite at h
  generalize admitted width offset = target at h
  match target, h with
  | some .cmd, h => exact presentCommand_keepsHistory h
  | some .opnd, rfl | some .result, rfl | some .status, rfl | some .acc, rfl => exact ⟨rfl, rfl⟩

theorem hostPoll_keepsHistory {s t : State} (h : hostPoll s = .next t) : s.KeepsHistory t := by
  unfold hostPoll at h
  split at h <;> cases h <;> exact ⟨rfl, rfl⟩

theorem assertReset_keepsHistory {s t : State} (h : s.assertReset = .next t) : s.KeepsHistory t := by
  unfold State.assertReset at h
  split at h <;> cases h
  exact ⟨rfl, rfl⟩

theorem hostStep_keepsHistory {m : HostMove} {s t : State} (h : hostStep m s = .next t) :
    s.KeepsHistory t := by
  cases m with
  | read width offset => exact hostRead_keepsHistory h
  | write width offset v => exact hostWrite_keepsHistory h
  | poll => exact hostPoll_keepsHistory h
  | reset => exact assertReset_keepsHistory h

/-! ### A step -/

/-- What a step can do to the configuration and the history: keep both, or, where the Sequencer moves in a busy
block, add one event. -/
theorem step_keepsHistory_or_addsEvent {s t : State} (h : step s = .next t) :
    s.KeepsHistory t ∨
      (s.schedule = [] ∨ ∃ rest, s.schedule = .sequencer :: rest) ∧ s.busy = true ∧ s.AddsEvent t := by
  cases hs : s.schedule with
  | nil =>
    rw [step_of_empty hs] at h
    exact (sequencerStep_keepsHistory_or_addsEvent h).imp_right fun added => ⟨.inl rfl, added⟩
  | cons m rest =>
    rw [step_of_cons hs] at h
    have sameStart : s.KeepsHistory { s with schedule := rest } := ⟨rfl, rfl⟩
    cases m with
    | host m => exact .inl (sameStart.trans (hostStep_keepsHistory h))
    | sequencer =>
      obtain kept | ⟨hbusy, added⟩ := sequencerStep_keepsHistory_or_addsEvent h
      · exact .inl (sameStart.trans kept)
      · exact .inr ⟨.inr ⟨rest, rfl⟩, hbusy, added.cfg, added.history⟩

/-- Settles O51: a step either keeps the configuration and the history, or is a Sequencer step of a busy block, which
adds the event of its one primitive. -/
theorem historyGrowsByAtMostOne : Obligations.HistoryGrowsByAtMostOne := by
  intro s t h
  obtain kept | ⟨moves, hbusy, added⟩ := step_keepsHistory_or_addsEvent h
  · exact ⟨kept.cfg, .inl kept.history⟩
  · exact ⟨added.cfg, .inr ⟨moves, hbusy, added.history⟩⟩

end Sys2Proof.Machine
end

section
/-!
PROOFS. What a step can do to the block, said once for the Sequencer, the Host's moves and the commands; and from it,
who writes `ACC`, `OVR` and the latches of a running transaction (R29, R34, R36, R41, R126, R182).
-/

namespace Sys2Proof.Machine

/-! ### Whose move it is -/

/-- A step is a Sequencer step or a Host move, on the state with the rest of the schedule. -/
theorem step_cases {s t : State} (h : step s = .next t) :
    (∃ rest, (s.schedule = [] ∨ s.schedule = .sequencer :: rest) ∧
      sequencerStep { s with schedule := rest } = .next t) ∨
    ∃ m rest, s.schedule = .host m :: rest ∧ hostStep m { s with schedule := rest } = .next t := by
  cases hs : s.schedule with
  | nil =>
    rw [step_of_empty hs] at h
    exact .inl ⟨[], .inl rfl, hs ▸ h⟩
  | cons m rest =>
    rw [step_of_cons hs] at h
    cases m with
    | sequencer => exact .inl ⟨rest, .inr rfl, h⟩
    | host m => exact .inr ⟨m, rest, rfl, h⟩

/-! ### The Host's moves -/

theorem admitted_eq_cmd {width offset : Nat} : admitted width offset = some .cmd ↔ width = 32 ∧ offset = 0 := by
  unfold admitted hostReg
  split_ifs <;> simp_all

/-- A Host move presents a command, resets an idle block, or changes `OPND` and what lies outside the block alone. -/
theorem hostStep_cases {m : HostMove} {s t : State} (h : hostStep m s = .next t) :
    (∃ w, m = .write 32 0x00 w ∧ presentCommand w s = .next t) ∨
    (m = .reset ∧ s.busy = false ∧ t = s.resetBlock) ∨
    ∃ opnd port schedule, t = { s with opnd := opnd, portData := port, schedule := schedule } := by
  cases m with
  | read width offset =>
    simp only [hostStep, hostRead] at h
    split at h <;> cases h
    exact .inr (.inr ⟨_, _, _, rfl⟩)
  | write width offset v =>
    simp only [hostStep, hostWrite] at h
    cases ha : admitted width offset with
    | none => simp [ha] at h
    | some r =>
      cases r with
      | cmd =>
        obtain ⟨rfl, rfl⟩ := admitted_eq_cmd.mp ha
        exact .inl ⟨v, rfl, h⟩
      | opnd | result | status | acc =>
        simp only [ha] at h
        cases h
        exact .inr (.inr ⟨_, _, _, rfl⟩)
  | poll =>
    simp only [hostStep, hostPoll] at h
    split at h <;> cases h <;> exact .inr (.inr ⟨_, _, _, rfl⟩)
  | reset =>
    simp only [hostStep, State.assertReset] at h
    split at h
    · cases h
    · next idle =>
      cases h
      exact .inr (.inl ⟨rfl, by simpa using idle, rfl⟩)

/-- A busy block rejects the word presented, and sets `OVR` alone (R128). -/
theorem presentCommand_busy {w : Word} {s t : State} (hbusy : s.busy = true)
    (h : presentCommand w s = .next t) : t = { s with ovr := true } := by
  obtain ⟨body, hbody⟩ := presentCommand_is_accept w
  rw [hbody, accept_busy body hbusy] at h
  cases h
  rfl

/-! ### Commands: `ACC` and `OVR` -/

@[simp] theorem encodeOpnd_acc (w : Width) (sg : Signedness) (s : State) : (s.encodeOpnd w sg).acc = s.acc := by
  unfold State.encodeOpnd; split <;> rfl

@[simp] theorem encodeOpnd_ovr (w : Width) (sg : Signedness) (s : State) : (s.encodeOpnd w sg).ovr = s.ovr := by
  unfold State.encodeOpnd; split <;> rfl

@[simp] theorem startWrite_acc (w : Width) (sg : Signedness) (reg : Byte) (s : State) :
    (s.startWrite w sg reg).acc = s.acc := by
  unfold State.startWrite; split <;> rfl

@[simp] theorem startWrite_ovr (w : Width) (sg : Signedness) (reg : Byte) (s : State) :
    (s.startWrite w sg reg).ovr = s.ovr := by
  unfold State.startWrite; split <;> rfl

theorem accept_acc {s t : State} {body : State → State} (h : s.accept body = .next t)
    (hbody : ∀ u : State, (body u).acc = u.acc) : t.acc = s.acc := by
  obtain ⟨_, rfl⟩ | ⟨_, rfl⟩ := accept_cases h
  · rfl
  · exact hbody s.cleared

/-- Acceptance clears `OVR`, rejection sets it, and the body of a command leaves it (R29). -/
theorem accept_ovr {s t : State} {body : State → State} (h : s.accept body = .next t)
    (hbody : ∀ u : State, (body u).ovr = u.ovr) : t.ovr = s.busy := by
  obtain ⟨hb, rfl⟩ | ⟨hb, rfl⟩ := accept_cases h
  · exact hb.symm
  · exact (hbody s.cleared).trans hb.symm

theorem exec_acc {i : Instr} {s t : State} (h : exec i s = .next t) (hcrca : ∀ b, i ≠ .crca b)
    (hcrcd : ∀ b, i ≠ .crcd b) : t.acc = s.acc := by
  cases i with
  | crca reg => exact absurd rfl (hcrca reg)
  | crcd data => exact absurd rfl (hcrcd data)
  | enc8u | enc8s | enc16u | enc16s => exact accept_acc h (encodeOpnd_acc _ _)
  | wr8u reg | wr8s reg | wr16u reg | wr16s reg => exact accept_acc h (startWrite_acc _ _ reg)
  | _ => exact accept_acc h fun _ => rfl

theorem exec_ovr {i : Instr} {s t : State} (h : exec i s = .next t) : t.ovr = s.busy := by
  cases i with
  | enc8u | enc8s | enc16u | enc16s => exact accept_ovr h (encodeOpnd_ovr _ _)
  | wr8u reg | wr8s reg | wr16u reg | wr16s reg => exact accept_ovr h (startWrite_ovr _ _ reg)
  | _ => exact accept_ovr h fun _ => rfl

theorem presentCommand_ovr {w : Word} {s t : State} (h : presentCommand w s = .next t) : t.ovr = s.busy := by
  cases hd : decode w with
  | ok i => exact exec_ovr ((presentCommand_ok hd s).symm.trans h)
  | error e => exact accept_ovr ((presentCommand_error hd s).symm.trans h) fun _ => rfl

/-- A presented word that changes `ACC` spells CRCA or CRCD and meets an idle block (R34, R41). -/
theorem stream_of_presentCommand_acc_ne {w : Word} {s t : State} (h : presentCommand w s = .next t)
    (hne : t.acc ≠ s.acc) :
    s.busy = false ∧ ((∃ b, decode w = .ok (.crca b)) ∨ ∃ b, decode w = .ok (.crcd b)) := by
  refine ⟨?_, ?_⟩
  · by_contra hbusy
    rw [presentCommand_busy (by simpa using hbusy) h] at hne
    exact hne rfl
  · by_contra! hstream
    obtain ⟨hcrca, hcrcd⟩ := hstream
    cases hd : decode w with
    | ok i =>
      refine hne (exec_acc ((presentCommand_ok hd s).symm.trans h) (fun b hi => ?_) fun b hi => ?_)
      · exact hcrca b (hi ▸ hd)
      · exact hcrcd b (hi ▸ hd)
    | error e => exact hne (accept_acc ((presentCommand_error hd s).symm.trans h) fun _ => rfl)

/-! ### The Sequencer -/

theorem writeVerify_cases {s t : State} {p : List Byte} (h : s.writeVerify p = .next t) :
    t = s.completeTransaction .ok 0 false ∨
    t = State.writeAttemptEnd { s with lastErr := .verify, nested := false, ratt := 0 } := by
  unfold State.writeVerify at h
  split at h
  · cases h
  · split at h <;> cases h
    · exact .inl rfl
    · exact .inr rfl

/-- What the check of a received frame can lead to (R138, R139, R143). -/
theorem checkFrame_cases {s t : State} (h : s.checkFrame = .next t) :
    t = State.readAttemptEnd { s with lastErr := .checksum } ∨
    (s.nested = false ∧ ∃ r, t = s.completeTransaction .ok r true) ∨
    (s.nested = true ∧ (t = s.completeTransaction .ok 0 false ∨
      t = State.writeAttemptEnd { s with lastErr := .verify, nested := false, ratt := 0 })) := by
  unfold State.checkFrame State.readSucceeded at h
  split at h
  · cases h
  · split at h
    · split at h
      · next hn => exact .inr (.inr ⟨hn, writeVerify_cases h⟩)
      · next hn =>
        split at h <;> cases h
        exact .inr (.inl ⟨by simpa using hn, _, rfl⟩)
    · cases h
      exact .inl rfl

/-- `s` with everything that a step on the bus may write put at a fixed value. Two states that agree under it are at
the same point of the same transaction. -/
def State.eraseBus (s : State) : State :=
  { s with
    seqState := .idle, session := false, lastErr := .none, tXok := false, rxbuf := [], history := []
    draws := [], drawCount := 0 }

/-- `s` with everything that a Sequencer step may write put at a fixed value. Two states that agree under it have the
same latches, `OPND`, `ACC` and `OVR`. -/
def State.eraseSequencer (s : State) : State :=
  { s.eraseBus with
    att := 0, ratt := 0, nested := false, attempts := 0, code := .none, result := 0, valid := false }

@[simp] theorem tOpen_eraseBus (s : State) : s.tOpen.2.eraseBus = s.eraseBus := by
  obtain ⟨rest, n, hdraw⟩ := draw_cases s
  simp [State.tOpen, State.record, State.eraseBus, hdraw]

@[simp] theorem tWriteBlock_eraseBus (s : State) (reg : Byte) (bytes : List Byte) :
    (s.tWriteBlock reg bytes).2.eraseBus = s.eraseBus := by
  obtain ⟨rest, n, hdraw⟩ := draw_cases s
  simp [State.tWriteBlock, State.record, State.eraseBus, hdraw]

@[simp] theorem tReadBlock_eraseBus (s : State) (reg : Byte) (n : Nat) :
    (s.tReadBlock reg n).2.eraseBus = s.eraseBus := by
  obtain ⟨rest, k, hdraw⟩ := draw_cases s
  simp [State.tReadBlock, State.record, State.eraseBus, hdraw]

@[simp] theorem takeAnswer_eraseBus (s : State) (a : Option (List Byte)) :
    (s.takeAnswer a).eraseBus = s.eraseBus := by
  unfold State.takeAnswer
  split
  · split <;> rfl
  · rfl

theorem stepRXfer_eraseBus {s t : State} (h : stepRXfer s = .next t) : t.eraseBus = s.eraseBus := by
  cases h
  calc
    _ = (State.takeAnswer (s.tReadBlock s.tReg (s.tN + 1)).1 (s.tReadBlock s.tReg (s.tN + 1)).2).eraseBus := rfl
    _ = (s.tReadBlock s.tReg (s.tN + 1)).2.eraseBus := takeAnswer_eraseBus _ _
    _ = s.eraseBus := tReadBlock_eraseBus s s.tReg (s.tN + 1)

theorem eraseSequencer_of_eraseBus {s t : State} (h : t.eraseBus = s.eraseBus) :
    t.eraseSequencer = s.eraseSequencer := by
  simp only [State.eraseSequencer, h]

theorem writeAttemptEnd_eraseSequencer (s : State) : s.writeAttemptEnd.eraseSequencer = s.eraseSequencer := by
  unfold State.writeAttemptEnd
  split <;> rfl

theorem readFailed_eraseSequencer (s : State) : s.readFailed.eraseSequencer = s.eraseSequencer := by
  unfold State.readFailed
  split
  · exact writeAttemptEnd_eraseSequencer _
  · rfl

theorem readAttemptEnd_eraseSequencer (s : State) : s.readAttemptEnd.eraseSequencer = s.eraseSequencer := by
  unfold State.readAttemptEnd
  split
  · rfl
  · exact readFailed_eraseSequencer s

theorem checkFrame_eraseSequencer {s t : State} (h : s.checkFrame = .next t) :
    t.eraseSequencer = s.eraseSequencer := by
  obtain rfl | ⟨_, _, rfl⟩ | ⟨_, rfl | rfl⟩ := checkFrame_cases h
  · exact readAttemptEnd_eraseSequencer _
  · rfl
  · rfl
  · exact writeAttemptEnd_eraseSequencer _

theorem stepWOpen_eraseSequencer {s t : State} (h : stepWOpen s = .next t) :
    t.eraseSequencer = s.eraseSequencer := by
  have opened : s.tOpen.2.eraseSequencer = s.eraseSequencer := eraseSequencer_of_eraseBus (tOpen_eraseBus s)
  unfold stepWOpen at h
  split at h <;> cases h
  · exact opened
  · exact (writeAttemptEnd_eraseSequencer _).trans opened

theorem stepWXfer_eraseSequencer {s t : State} (h : stepWXfer s = .next t) :
    t.eraseSequencer = s.eraseSequencer := by
  cases h
  exact eraseSequencer_of_eraseBus (tWriteBlock_eraseBus s s.tReg s.tTx)

theorem stepWClose_eraseSequencer {s t : State} (h : stepWClose s = .next t) :
    t.eraseSequencer = s.eraseSequencer := by
  unfold stepWClose at h
  split at h <;> cases h
  · rfl
  · exact writeAttemptEnd_eraseSequencer _

theorem stepROpen_eraseSequencer {s t : State} (h : stepROpen s = .next t) :
    t.eraseSequencer = s.eraseSequencer := by
  have opened : s.tOpen.2.eraseSequencer = s.eraseSequencer := eraseSequencer_of_eraseBus (tOpen_eraseBus s)
  unfold stepROpen at h
  split at h <;> cases h
  · exact opened
  · exact (readAttemptEnd_eraseSequencer _).trans opened

theorem stepRClose_eraseSequencer {s t : State} (h : stepRClose s = .next t) :
    t.eraseSequencer = s.eraseSequencer := by
  unfold stepRClose at h
  split at h
  · exact checkFrame_eraseSequencer (s := s.tClose) h
  · cases h
    exact readAttemptEnd_eraseSequencer _

/-- The frame of the Sequencer: its step changes only what `eraseSequencer` erases. -/
theorem sequencerStep_eraseSequencer {s t : State} (h : sequencerStep s = .next t) :
    t.eraseSequencer = s.eraseSequencer := by
  unfold sequencerStep at h
  generalize s.seqState = q at h
  cases q with
  | idle | wWait | rWait => cases h; rfl
  | wOpen => exact stepWOpen_eraseSequencer h
  | wXfer => exact stepWXfer_eraseSequencer h
  | wClose => exact stepWClose_eraseSequencer h
  | rOpen => exact stepROpen_eraseSequencer h
  | rXfer => exact eraseSequencer_of_eraseBus (stepRXfer_eraseBus h)
  | rClose => exact stepRClose_eraseSequencer h

/-! ### Who writes `ACC`, `OVR` and the latches -/

/-- Settles O52: of the three kinds of Host move only the command and the reset reach `ACC`, and the Sequencer keeps
it. -/
theorem accWrittenByStreamAlone : Obligations.AccWrittenByStreamAlone := by
  refine ⟨fun s t i => exec_acc, fun s t h hne => ?_⟩
  obtain ⟨rest, -, h⟩ | ⟨m, rest, hs, h⟩ := step_cases h
  · exact absurd (congrArg State.acc (sequencerStep_eraseSequencer h)) hne
  · refine ⟨m, rest, hs, ?_⟩
    obtain ⟨w, rfl, hcmd⟩ | ⟨rfl, -, -⟩ | ⟨_, _, _, rfl⟩ := hostStep_cases h
    · exact .inr ⟨w, rfl, stream_of_presentCommand_acc_ne (s := { s with schedule := rest }) hcmd hne⟩
    · exact .inl rfl
    · exact absurd rfl hne

/-- Settles O53: a presented command leaves in `OVR` whether the block was busy, and no other move but reset reaches
it. -/
theorem ovrWrittenByCommandsAlone : Obligations.OvrWrittenByCommandsAlone := by
  refine fun s t h => ⟨fun w rest hs => ?_, fun hne => ?_⟩
  · rw [step_of_cons hs] at h
    exact presentCommand_ovr (s := { s with schedule := rest }) h
  · obtain ⟨rest, -, h⟩ | ⟨m, rest, hs, h⟩ := step_cases h
    · exact absurd (congrArg State.ovr (sequencerStep_eraseSequencer h)) hne
    · obtain ⟨w, rfl, -⟩ | ⟨rfl, -, -⟩ | ⟨_, _, _, rfl⟩ := hostStep_cases h
      · exact .inl ⟨w, rest, hs⟩
      · exact .inr ⟨rest, hs⟩
      · exact absurd rfl hne

/-- A Host move on a busy block changes no more than `OVR`, `OPND` and what lies outside the block (R126, R183). -/
theorem hostStep_busy {m : HostMove} {s t : State} (hbusy : s.busy = true) (h : hostStep m s = .next t) :
    ∃ ovr opnd port schedule,
      t = { s with ovr := ovr, opnd := opnd, portData := port, schedule := schedule } := by
  obtain ⟨w, rfl, hcmd⟩ | ⟨rfl, idle, -⟩ | ⟨_, _, _, rfl⟩ := hostStep_cases h
  · exact ⟨true, _, _, _, presentCommand_busy hbusy hcmd⟩
  · exact absurd hbusy (by simp [idle])
  · exact ⟨_, _, _, _, rfl⟩

/-- Settles O54: the latches lie in the frame of the Sequencer, and a busy block lets the Host reach neither them nor
`SEQ_STATE`. -/
theorem latchesHeldWhileBusy : Obligations.LatchesHeldWhileBusy := by
  intro s t hbusy h
  obtain ⟨rest, hmove, h⟩ | ⟨m, rest, -, h⟩ := step_cases h
  · have kept : t.eraseSequencer = State.eraseSequencer { s with schedule := rest } :=
      sequencerStep_eraseSequencer h
    exact ⟨(congrArg State.tOp kept :), (congrArg State.tReg kept :), (congrArg State.tW kept :),
      (congrArg State.tS kept :), (congrArg State.tVal kept :), (congrArg State.tTx kept :),
      (congrArg State.tN kept :), fun _ _ hs => by simp [hs] at hmove⟩
  · obtain ⟨_, _, _, _, rfl⟩ := hostStep_busy (s := { s with schedule := rest }) hbusy h
    exact ⟨rfl, rfl, rfl, rfl, rfl, rfl, rfl, fun _ _ _ => rfl⟩

end Sys2Proof.Machine
end

section
/-!
PROOFS. The invariant of the block holds at reset and every step keeps it. It is taken apart by where the Sequencer
stands: an idle block, a running write loop, a running read loop (R32, R36 to R44, R188).
-/

namespace Sys2Proof.Machine

/-! ### Where the Sequencer stands -/

theorem busy_of_inWrite {s : State} (h : s.seqState.inWrite = true) : s.busy = true := by
  rw [State.busy_iff]
  intro hidle
  simp [hidle, SeqState.inWrite] at h

theorem busy_of_inRead {s : State} (h : s.seqState.inRead = true) : s.busy = true := by
  rw [State.busy_iff]
  intro hidle
  simp [hidle, SeqState.inRead] at h

theorem SeqState.inRead_of_inWrite {q : SeqState} (h : q.inWrite = true) : q.inRead = false := by
  cases q with
  | wOpen | wWait | wXfer | wClose => rfl
  | idle | rOpen | rWait | rXfer | rClose => cases h

/-! ### The invariant of an idle block -/

theorem good_of_idle {s : State} (hq : s.seqState = .idle) (hsession : s.session = false) (hatt : s.att = 0)
    (hratt : s.ratt = 0) (hnested : s.nested = false) (hvalid : s.valid = true → s.code = .ok)
    (hresult : s.valid = false → s.result = 0) : s.Good where
  session_iff := by rw [hq]; exact hsession
  idle_clear _ := ⟨hatt, hratt, hnested⟩
  write_loop hw := absurd hq (s.busy_iff.mp (busy_of_inWrite hw))
  read_loop hr := absurd hq (s.busy_iff.mp (busy_of_inRead hr))
  nested_write hn := by simp [hnested] at hn
  top_read hr := absurd hq (s.busy_iff.mp (busy_of_inRead hr))
  payload_length hbusy := absurd hq (s.busy_iff.mp hbusy)
  frame hbusy := absurd hq (s.busy_iff.mp hbusy)
  received hr := by simp [hq] at hr
  running hbusy := absurd hq (s.busy_iff.mp hbusy)
  running_attempts hbusy := absurd hq (s.busy_iff.mp hbusy)
  valid_ok := hvalid
  no_value := hresult

theorem resetBlock_good (s : State) : s.resetBlock.Good :=
  good_of_idle rfl rfl rfl rfl rfl (by simp [State.resetBlock, State.reset]) fun _ => rfl

/-- Settles O46: at reset the block is idle, its counters are 0, and it shows no outcome. -/
theorem goodAtReset : Obligations.GoodAtReset := resetBlock_good State.reset

theorem completeTransaction_good {s : State} {c : Code} {r : Word} {v : Bool} (hsession : s.session = false)
    (hvalid : v = true → c = .ok) (hresult : v = false → r = 0) : (s.completeTransaction c r v).Good :=
  good_of_idle rfl hsession rfl rfl rfl hvalid hresult

/-! ### What the invariant does not look at -/

/-- `OPND`, `OVR`, the schedule and the word last read play no part in the invariant. -/
theorem State.Good.outside {s : State} (h : s.Good) (ovr : Bool) (opnd port : Word) (schedule : List Move) :
    State.Good { s with ovr := ovr, opnd := opnd, portData := port, schedule := schedule } :=
  ⟨h.session_iff, h.idle_clear, h.write_loop, h.read_loop, h.nested_write, h.top_read, h.payload_length, h.frame,
    h.received, h.running, h.running_attempts, h.valid_ok, h.no_value⟩

/-! ### The invariant of a running transaction -/

/-- What holds from acceptance to completion: the latches fit each other, no outcome shows, and `ATTEMPTS` is the
attempt number of the outermost loop (R32, R36, R72, R188). -/
structure State.Running (s : State) : Prop where
  payload_length : s.tN = s.payloadLength
  frame : s.tOp = .wr → ∃ e, encodeValue s.tW s.tS s.tVal = some e ∧ s.tTx = e ++ [crcOver s.tReg e]
  no_outcome : s.code = .none ∧ s.valid = false ∧ s.result = 0
  attempts : s.attempts = BitVec.ofNat 8 s.outerAttempt

/-- The counters of the write loop, between two attempts or within one (R37, R38). -/
structure State.InWriteLoop (s : State) : Prop where
  running : s.Running
  op : s.tOp = .wr
  nested : s.nested = false
  ratt : s.ratt = 0
  att : 1 ≤ s.att ∧ s.att ≤ s.cfg.maxRetries

/-- The counters of the read loop, nested in a write attempt or not (R37, R38). -/
structure State.InReadLoop (s : State) : Prop where
  running : s.Running
  ratt : 1 ≤ s.ratt ∧ s.ratt ≤ s.cfg.maxRetries
  nested_iff : s.nested = true ↔ s.tOp = .wr
  nested_att : s.nested = true → 1 ≤ s.att ∧ s.att ≤ s.cfg.maxRetries
  top_att : s.nested = false → s.att = 0

theorem State.Good.toRunning {s : State} (h : s.Good) (hbusy : s.busy = true) : s.Running :=
  ⟨h.payload_length hbusy, h.frame hbusy, h.running hbusy, h.running_attempts hbusy⟩

theorem State.Good.toInWriteLoop {s : State} (h : s.Good) (hq : s.seqState.inWrite = true) : s.InWriteLoop := by
  obtain ⟨hop, hnested, hratt, hatt⟩ := h.write_loop hq
  exact ⟨h.toRunning (busy_of_inWrite hq), hop, hnested, hratt, hatt⟩

theorem State.Good.toInReadLoop {s : State} (h : s.Good) (hq : s.seqState.inRead = true) : s.InReadLoop := by
  obtain ⟨hlow, hhigh, hiff⟩ := h.read_loop hq
  exact ⟨h.toRunning (busy_of_inRead hq), ⟨hlow, hhigh⟩, hiff, fun hn => (h.nested_write hn).2, h.top_read hq⟩

theorem State.InWriteLoop.good {s : State} (h : s.InWriteLoop) (hq : s.seqState.inWrite = true)
    (hsession : s.session = s.seqState.inSession) : s.Good where
  session_iff := hsession
  idle_clear hidle := by simp [hidle, SeqState.inWrite] at hq
  write_loop _ := ⟨h.op, h.nested, h.ratt, h.att⟩
  read_loop hr := by simp [SeqState.inRead_of_inWrite hq] at hr
  nested_write hn := by simp [h.nested] at hn
  top_read hr := by simp [SeqState.inRead_of_inWrite hq] at hr
  payload_length _ := h.running.payload_length
  frame _ := h.running.frame
  received hr := by simp [hr, SeqState.inWrite] at hq
  running _ := h.running.no_outcome
  running_attempts _ := h.running.attempts
  valid_ok hv := by simp [h.running.no_outcome] at hv
  no_value _ := h.running.no_outcome.2.2

theorem State.InReadLoop.good {s : State} (h : s.InReadLoop) (hq : s.seqState.inRead = true)
    (hsession : s.session = s.seqState.inSession)
    (hreceived : s.seqState = .rClose → s.tXok = true → s.rxbuf.length = s.tN + 1) : s.Good where
  session_iff := hsession
  idle_clear hidle := by simp [hidle, SeqState.inRead] at hq
  write_loop hw := by simp [SeqState.inRead_of_inWrite hw] at hq
  read_loop _ := ⟨h.ratt.1, h.ratt.2, h.nested_iff⟩
  nested_write hn := ⟨h.nested_iff.mp hn, h.nested_att hn⟩
  top_read _ := h.top_att
  payload_length _ := h.running.payload_length
  frame _ := h.running.frame
  received := hreceived
  running _ := h.running.no_outcome
  running_attempts _ := h.running.attempts
  valid_ok hv := by simp [h.running.no_outcome] at hv
  no_value _ := h.running.no_outcome.2.2

/-! ### A step on the bus stays in its loop -/

theorem inWriteLoop_eraseBus {s : State} : s.eraseBus.InWriteLoop ↔ s.InWriteLoop := by
  constructor <;> exact fun ⟨⟨hlen, hframe, hnone, hatt⟩, hop, hn, hr, hrange⟩ =>
    ⟨⟨hlen, hframe, hnone, hatt⟩, hop, hn, hr, hrange⟩

theorem inReadLoop_eraseBus {s : State} : s.eraseBus.InReadLoop ↔ s.InReadLoop := by
  constructor <;> exact fun ⟨⟨hlen, hframe, hnone, hatt⟩, hr, hn, hw, ht⟩ =>
    ⟨⟨hlen, hframe, hnone, hatt⟩, hr, hn, hw, ht⟩

theorem State.InWriteLoop.of_eraseBus {s t : State} (h : s.InWriteLoop) (heq : t.eraseBus = s.eraseBus) :
    t.InWriteLoop :=
  inWriteLoop_eraseBus.mp (heq ▸ inWriteLoop_eraseBus.mpr h)

theorem State.InReadLoop.of_eraseBus {s t : State} (h : s.InReadLoop) (heq : t.eraseBus = s.eraseBus) :
    t.InReadLoop :=
  inReadLoop_eraseBus.mp (heq ▸ inReadLoop_eraseBus.mpr h)

/-! ### The ends of attempts -/

theorem State.InWriteLoop.writeAttemptEnd_good {s : State} (h : s.InWriteLoop) (hsession : s.session = false) :
    s.writeAttemptEnd.Good := by
  rcases Nat.lt_or_ge s.att s.cfg.maxRetries with again | last
  · rw [writeAttemptEnd_again again]
    have next : State.InWriteLoop
        { s with att := s.att + 1, attempts := BitVec.ofNat 8 (s.att + 1), seqState := .wOpen } :=
      { running :=
          { payload_length := h.running.payload_length
            frame := h.running.frame
            no_outcome := h.running.no_outcome
            attempts := by simp [State.outerAttempt, h.op] }
        op := h.op
        nested := h.nested
        ratt := h.ratt
        att := ⟨Nat.le_add_left 1 s.att, again⟩ }
    exact next.good rfl hsession
  · rw [writeAttemptEnd_last last]
    exact completeTransaction_good hsession (by simp) fun _ => rfl

/-- A read-back that is over, for better or worse, leaves the write loop at the attempt it was in (R140, R143). -/
theorem State.InReadLoop.readbackOver {s : State} (h : s.InReadLoop) (hnested : s.nested = true) :
    State.InWriteLoop { s with nested := false, ratt := 0 } where
  running :=
    { payload_length := h.running.payload_length
      frame := h.running.frame
      no_outcome := h.running.no_outcome
      attempts := by simpa [State.outerAttempt, h.nested_iff.mp hnested] using h.running.attempts }
  op := h.nested_iff.mp hnested
  nested := rfl
  ratt := rfl
  att := h.nested_att hnested

theorem State.InReadLoop.readFailed_good {s : State} (h : s.InReadLoop) (hsession : s.session = false) :
    s.readFailed.Good := by
  cases hn : s.nested with
  | false =>
    rw [readFailed_top hn]
    exact completeTransaction_good hsession (by simp) fun _ => rfl
  | true =>
    rw [readFailed_nested hn]
    exact (h.readbackOver hn).writeAttemptEnd_good hsession

/-- `ATTEMPTS` follows a top-level read's attempt number, and a read-back leaves it (R32, R138). -/
theorem State.InReadLoop.outerAttempt_next {s : State} (h : s.InReadLoop) :
    (if s.nested = true then s.attempts else BitVec.ofNat 8 (s.ratt + 1)) =
      BitVec.ofNat 8 (State.outerAttempt { s with ratt := s.ratt + 1 }) := by
  cases hn : s.nested with
  | true => simpa [State.outerAttempt, h.nested_iff.mp hn] using h.running.attempts
  | false =>
    have hread : s.tOp ≠ .wr := fun hop => by simp [h.nested_iff.mpr hop] at hn
    cases hop : s.tOp with
    | wr => exact absurd hop hread
    | rd | rdver | rdupt => rfl

theorem State.InReadLoop.readAttemptEnd_good {s : State} (h : s.InReadLoop) (hsession : s.session = false) :
    s.readAttemptEnd.Good := by
  rcases Nat.lt_or_ge s.ratt s.cfg.maxRetries with again | last
  · rw [readAttemptEnd_again again]
    have next : State.InReadLoop { s with
        ratt := s.ratt + 1
        attempts := if s.nested = true then s.attempts else BitVec.ofNat 8 (s.ratt + 1)
        seqState := .rOpen } :=
      { running :=
          { payload_length := h.running.payload_length
            frame := h.running.frame
            no_outcome := h.running.no_outcome
            attempts := h.outerAttempt_next }
        ratt := ⟨Nat.le_add_left 1 s.ratt, again⟩
        nested_iff := h.nested_iff
        nested_att := h.nested_att
        top_att := h.top_att }
    exact next.good rfl hsession (by simp)
  · rw [readAttemptEnd_last last]
    exact h.readFailed_good hsession

theorem State.InReadLoop.checkFrame_good {s t : State} (h : s.InReadLoop) (hsession : s.session = false)
    (hcheck : s.checkFrame = .next t) : t.Good := by
  obtain rfl | ⟨-, r, rfl⟩ | ⟨hn, rfl | rfl⟩ := checkFrame_cases hcheck
  · exact State.InReadLoop.readAttemptEnd_good (h.of_eraseBus rfl) hsession
  · exact completeTransaction_good hsession (fun _ => rfl) (by simp)
  · exact completeTransaction_good hsession (by simp) fun _ => rfl
  · exact State.InWriteLoop.writeAttemptEnd_good ((h.readbackOver hn).of_eraseBus rfl) hsession

/-- A good write whose frame is out starts its read-back (R134). -/
theorem State.InWriteLoop.startReadback {s : State} (h : s.InWriteLoop) :
    State.InReadLoop { s with nested := true, ratt := 1 } where
  running :=
    { payload_length := h.running.payload_length
      frame := h.running.frame
      no_outcome := h.running.no_outcome
      attempts := by simpa [State.outerAttempt, h.op] using h.running.attempts }
  ratt := ⟨Nat.le_refl 1, s.cfg.maxRetries_range.1⟩
  nested_iff := by simp [h.op]
  nested_att _ := h.att
  top_att := by simp

/-! ### The Sequencer's steps -/

theorem stepWOpen_good {s t : State} (hs : s.Good) (hq : s.seqState = .wOpen) (h : stepWOpen s = .next t) :
    t.Good := by
  have loop : s.tOpen.2.InWriteLoop := (hs.toInWriteLoop (by rw [hq]; rfl)).of_eraseBus (tOpen_eraseBus s)
  unfold stepWOpen at h
  split at h <;> cases h
  · exact State.InWriteLoop.good (loop.of_eraseBus rfl) rfl rfl
  · refine State.InWriteLoop.writeAttemptEnd_good (loop.of_eraseBus rfl) ?_
    simp [hs.session_iff, hq, SeqState.inSession]

theorem stepWWait_good {s t : State} (hs : s.Good) (hq : s.seqState = .wWait) (h : stepWWait s = .next t) :
    t.Good := by
  have loop : s.InWriteLoop := hs.toInWriteLoop (by rw [hq]; rfl)
  cases h
  refine State.InWriteLoop.good (loop.of_eraseBus rfl) rfl ?_
  simp [hs.session_iff, hq, SeqState.inSession]

theorem stepWXfer_good {s t : State} (hs : s.Good) (hq : s.seqState = .wXfer) (h : stepWXfer s = .next t) :
    t.Good := by
  have loop : (s.tWriteBlock s.tReg s.tTx).2.InWriteLoop :=
    (hs.toInWriteLoop (by rw [hq]; rfl)).of_eraseBus (tWriteBlock_eraseBus s s.tReg s.tTx)
  cases h
  refine State.InWriteLoop.good (loop.of_eraseBus rfl) rfl ?_
  simp [hs.session_iff, hq, SeqState.inSession]

theorem stepWClose_good {s t : State} (hs : s.Good) (hq : s.seqState = .wClose) (h : stepWClose s = .next t) :
    t.Good := by
  have loop : s.InWriteLoop := hs.toInWriteLoop (by rw [hq]; rfl)
  unfold stepWClose at h
  split at h <;> cases h
  · exact State.InReadLoop.good (loop.startReadback.of_eraseBus rfl) rfl rfl (by simp)
  · exact State.InWriteLoop.writeAttemptEnd_good (loop.of_eraseBus rfl) rfl

theorem stepROpen_good {s t : State} (hs : s.Good) (hq : s.seqState = .rOpen) (h : stepROpen s = .next t) :
    t.Good := by
  have loop : s.tOpen.2.InReadLoop := (hs.toInReadLoop (by rw [hq]; rfl)).of_eraseBus (tOpen_eraseBus s)
  unfold stepROpen at h
  split at h <;> cases h
  · exact State.InReadLoop.good (loop.of_eraseBus rfl) rfl rfl (by simp)
  · refine State.InReadLoop.readAttemptEnd_good (loop.of_eraseBus rfl) ?_
    simp [hs.session_iff, hq, SeqState.inSession]

theorem stepRWait_good {s t : State} (hs : s.Good) (hq : s.seqState = .rWait) (h : stepRWait s = .next t) :
    t.Good := by
  have loop : s.InReadLoop := hs.toInReadLoop (by rw [hq]; rfl)
  cases h
  refine State.InReadLoop.good (loop.of_eraseBus rfl) rfl ?_ (by simp)
  simp [hs.session_iff, hq, SeqState.inSession]

theorem stepRXfer_good {s t : State} (hs : s.Good) (hq : s.seqState = .rXfer) (h : stepRXfer s = .next t) :
    t.Good := by
  have loop : t.InReadLoop := (hs.toInReadLoop (by rw [hq]; rfl)).of_eraseBus (stepRXfer_eraseBus h)
  cases h
  refine loop.good rfl ?_ fun _ hok => ?_
  · simp [hs.session_iff, hq, SeqState.inSession]
  · simpa using takeAnswer_length hok

theorem stepRClose_good {s t : State} (hs : s.Good) (hq : s.seqState = .rClose) (h : stepRClose s = .next t) :
    t.Good := by
  have loop : s.tClose.InReadLoop := (hs.toInReadLoop (by rw [hq]; rfl)).of_eraseBus rfl
  unfold stepRClose at h
  split at h
  · exact loop.checkFrame_good rfl h
  · cases h
    exact State.InReadLoop.readAttemptEnd_good (loop.of_eraseBus rfl) rfl

theorem sequencerStep_good {s t : State} (hs : s.Good) (h : sequencerStep s = .next t) : t.Good := by
  unfold sequencerStep at h
  generalize hq : s.seqState = q at h
  cases q with
  | idle => cases h; exact hs
  | wOpen => exact stepWOpen_good hs hq h
  | wWait => exact stepWWait_good hs hq h
  | wXfer => exact stepWXfer_good hs hq h
  | wClose => exact stepWClose_good hs hq h
  | rOpen => exact stepROpen_good hs hq h
  | rWait => exact stepRWait_good hs hq h
  | rXfer => exact stepRXfer_good hs hq h
  | rClose => exact stepRClose_good hs hq h

/-! ### Commands -/

/-- An idle good state as acceptance leaves it to the body of a command (R43, R128). -/
structure State.Fresh (s : State) : Prop where
  session : s.session = false
  att : s.att = 0
  ratt : s.ratt = 0
  nested : s.nested = false
  no_outcome : s.code = .none ∧ s.valid = false ∧ s.result = 0

theorem State.Good.fresh {s : State} (h : s.Good) (hidle : s.busy = false) : s.cleared.Fresh := by
  have hq := s.not_busy_iff.mp hidle
  obtain ⟨hatt, hratt, hnested⟩ := h.idle_clear hq
  exact ⟨by simp [h.session_iff, hq, SeqState.inSession], hatt, hratt, hnested, rfl, rfl, rfl⟩

section
variable {s : State} (h : s.Fresh)
include h

theorem State.Fresh.complete_good {c : Code} {r : Word} {v : Bool} (hvalid : v = true → c = .ok)
    (hresult : v = false → r = 0) : (s.complete c r v).Good :=
  good_of_idle rfl h.session h.att h.ratt h.nested hvalid hresult

theorem State.Fresh.streamTo_good (c : Byte) : (s.streamTo c).Good :=
  good_of_idle rfl h.session h.att h.ratt h.nested (fun _ => rfl) (by simp)

theorem State.Fresh.encodeOpnd_good (w : Width) (sg : Signedness) : (s.encodeOpnd w sg).Good := by
  unfold State.encodeOpnd
  split
  · exact h.complete_good (fun _ => rfl) (by simp)
  · exact h.complete_good (by simp) fun _ => rfl

theorem State.Fresh.startWrite_good (w : Width) (sg : Signedness) (reg : Byte) :
    (s.startWrite w sg reg).Good := by
  unfold State.startWrite
  split
  · exact h.complete_good (by simp) fun _ => rfl
  · next e he =>
    exact State.InWriteLoop.good
      { running := ⟨rfl, fun _ => ⟨e, he, rfl⟩, h.no_outcome, rfl⟩
        op := rfl
        nested := rfl
        ratt := rfl
        att := ⟨Nat.le_refl 1, s.cfg.maxRetries_range.1⟩ } rfl h.session

/-- Every read starts the loop at its first attempt, with the payload length of its kind (R130). -/
theorem State.Fresh.startLoop_good {kind : TxnKind} {w : Width} (hkind : kind ≠ .wr) (sg : Signedness)
    (reg : Byte) (k : Nat) :
    State.Good { s.startLoop kind (payloadOf kind w) reg with tW := w, tS := sg, drawCount := k } := by
  refine State.InReadLoop.good
    { running := ⟨rfl, fun hop => absurd hop hkind, h.no_outcome, ?_⟩
      ratt := ⟨Nat.le_refl 1, s.cfg.maxRetries_range.1⟩
      nested_iff := by simpa using hkind
      nested_att := by simp
      top_att := fun _ => rfl } rfl h.session (by simp)
  cases kind with
  | wr => exact absurd rfl hkind
  | rd | rdver | rdupt => rfl

end

theorem accept_good {s t : State} {body : State → State} (hs : s.Good) (h : s.accept body = .next t)
    (hbody : ∀ u : State, u.Fresh → (body u).Good) : t.Good := by
  obtain ⟨_, rfl⟩ | ⟨hidle, rfl⟩ := accept_cases h
  · exact hs.outside true s.opnd s.portData s.schedule
  · exact hbody _ (hs.fresh hidle)

theorem exec_good {i : Instr} {s t : State} (hs : s.Good) (h : exec i s = .next t) : t.Good := by
  cases i with
  | crca reg => exact accept_good hs h fun _ fresh => fresh.streamTo_good _
  | crcd data =>
    exact accept_good (body := fun u => u.streamTo (crcFold u.acc data)) hs h fun _ fresh => fresh.streamTo_good _
  | enc8u | enc8s | enc16u | enc16s => exact accept_good hs h fun _ fresh => fresh.encodeOpnd_good _ _
  | crcb seed data => exact accept_good hs h fun _ fresh => fresh.complete_good (fun _ => rfl) (by simp)
  | dec8u | dec8s | dec16u | dec16s | dec24u =>
    exact accept_good hs h fun _ fresh => fresh.complete_good (fun _ => rfl) (by simp)
  | wr8u reg | wr8s reg | wr16u reg | wr16s reg =>
    exact accept_good hs h fun _ fresh => fresh.startWrite_good _ _ reg
  | rd8u reg | rd8s reg | rd16u reg | rd16s reg =>
    exact accept_good hs h fun u fresh => fresh.startLoop_good (kind := .rd) (by simp) _ reg u.drawCount
  | rdver reg | rdupt reg => exact accept_good hs h fun _ fresh => fresh.startLoop_good (by simp) _ reg _

theorem presentCommand_good {w : Word} {s t : State} (hs : s.Good) (h : presentCommand w s = .next t) :
    t.Good := by
  cases hd : decode w with
  | ok i => exact exec_good hs ((presentCommand_ok hd s).symm.trans h)
  | error e =>
    exact accept_good hs ((presentCommand_error hd s).symm.trans h) fun _ fresh =>
      fresh.complete_good (by simp) fun _ => rfl

/-! ### A step -/

theorem hostStep_good {m : HostMove} {s t : State} (hs : s.Good) (h : hostStep m s = .next t) : t.Good := by
  obtain ⟨w, rfl, hcmd⟩ | ⟨rfl, -, rfl⟩ | ⟨opnd, port, schedule, rfl⟩ := hostStep_cases h
  · exact presentCommand_good hs hcmd
  · exact resetBlock_good s
  · exact hs.outside s.ovr opnd port schedule

/-- Settles O47: the next move of the schedule is a Sequencer step or a Host move, and both keep the invariant. -/
theorem stepKeepsGood : Obligations.StepKeepsGood := by
  intro s t hs h
  obtain ⟨rest, -, h⟩ | ⟨m, rest, -, h⟩ := step_cases h
  · exact sequencerStep_good (hs.outside s.ovr s.opnd s.portData rest) h
  · exact hostStep_good (hs.outside s.ovr s.opnd s.portData rest) h

end Sys2Proof.Machine
end

section
/-!
PROOFS. The STATUS word field by field, and the values at reset (R26 to R33, R45).
-/

namespace Sys2Proof.Machine

/-- The STATUS word at the width that the sum of its fields spells, so that each can be cut off in turn. -/
theorem statusWord_extractLsb' (s : State) (i n : Nat) :
    s.statusWord.extractLsb' i n = BitVec.extractLsb' (n := 8 + 8 + 6 + 2 + 1 + 3 + 1 + 1 + 1 + 1) i n
      (0#8 ++ s.attempts ++ 0#6 ++ s.lastErr.bits ++ 0#1 ++ s.code.bits ++ 0#1 ++
        flagBit s.ovr ++ flagBit s.valid ++ flagBit s.busy) := rfl

/-- The fields of STATUS where R26 and R33 put them. -/
theorem statusWord_fields (s : State) :
    s.statusWord.extractLsb' 0 1 = flagBit s.busy ∧ s.statusWord.extractLsb' 1 1 = flagBit s.valid ∧
    s.statusWord.extractLsb' 2 1 = flagBit s.ovr ∧ s.statusWord.extractLsb' 3 1 = 0#1 ∧
    s.statusWord.extractLsb' 4 3 = s.code.bits ∧ s.statusWord.extractLsb' 7 1 = 0#1 ∧
    s.statusWord.extractLsb' 8 2 = s.lastErr.bits ∧ s.statusWord.extractLsb' 10 6 = 0#6 ∧
    s.statusWord.extractLsb' 16 8 = s.attempts ∧ s.statusWord.extractLsb' 24 8 = 0#8 := by
  simp only [statusWord_extractLsb']
  refine ⟨?_, ?_, ?_, ?_, ?_, ?_, ?_, ?_, ?_, ?_⟩
  all_goals repeat rw [BitVec.extractLsb'_append_eq_of_le (by decide)]
  case refine_10 => exact BitVec.extractLsb'_eq_self
  all_goals exact BitVec.extractLsb'_append_eq_right

theorem flagBit_eq_one (b : Bool) : (flagBit b == 1#1) = b := by
  cases b <;> rfl

/-- Settles O40: each flag is the one bit of its field, and `CODE` and `LASTERR` hold the codes of R30 and R31. -/
theorem statusLayout : Obligations.StatusLayout := by
  intro s
  obtain ⟨busy, valid, ovr, bit3, code, bit7, lastErr, bits10, attempts, bits24⟩ := statusWord_fields s
  simp only [BitVec.getLsbD_eq_extractLsb', busy, valid, ovr, bit3, bit7, flagBit_eq_one]
  refine ⟨rfl, trivial, trivial, rfl, code.trans ?_, rfl, lastErr.trans ?_, bits10, attempts, bits24⟩
  · cases s.code <;> rfl
  · cases s.lastErr <;> rfl

/-- Settles O44: at reset every field is a literal, and the STATUS word of those literals is 0. -/
theorem resetValues : Obligations.ResetValues :=
  ⟨rfl, rfl, rfl, rfl, rfl, rfl, rfl, rfl, rfl, rfl, rfl, rfl, rfl, rfl, rfl, rfl⟩

end Sys2Proof.Machine
end

section
/-!
PROOFS. The host port and the Transport's answers: which accesses have a step, what each does, and what a draw is
(R23 to R26, R34, R47 to R49, R62).
-/

namespace Sys2Proof.Machine

/-! ### Admission -/

theorem hostReg_eq_none {offset : Nat} : hostReg offset = none ↔ offset ∉ [0x00, 0x04, 0x08, 0x0C, 0x10] := by
  unfold hostReg
  split_ifs <;> simp_all

/-- R48: each of the five offsets is a multiple of 4, so its alignment clause admits no less. -/
theorem admitted_eq_none {width offset : Nat} : admitted width offset = none ↔
    ¬(width = 32 ∧ offset % 4 = 0 ∧ offset ∈ [0x00, 0x04, 0x08, 0x0C, 0x10]) := by
  have aligned : offset ∈ [0x00, 0x04, 0x08, 0x0C, 0x10] → offset % 4 = 0 := by
    simp only [List.mem_cons, List.not_mem_nil, or_false]
    omega
  rw [and_iff_right_of_imp aligned]
  unfold admitted
  split
  · next h32 => simp only [h32, true_and, hostReg_eq_none]
  · next h32 => simp only [h32, false_and, not_false_eq_true]

/-! ### Accesses -/

theorem hostRead_admitted {width offset : Nat} {r : HostReg} (h : admitted width offset = some r) (s : State) :
    hostRead width offset s = .next { s with portData := s.readReg r } := by
  simp [hostRead, h]

theorem hostRead_refused {width offset : Nat} (h : admitted width offset = none) (s : State) :
    hostRead width offset s = .refused .hostAccess := by
  simp [hostRead, h]

theorem hostWrite_refused {width offset : Nat} (h : admitted width offset = none) (v : Word) (s : State) :
    hostWrite width offset v s = .refused .hostAccess := by
  simp [hostWrite, h]

/-- Any word presented is accepted or rejected, and both answer a next state (R128). -/
theorem presentCommand_answers_next (w : Word) (s : State) : ∃ t, presentCommand w s = .next t := by
  obtain ⟨body, hbody⟩ := presentCommand_is_accept w
  rw [hbody, State.accept]
  split <;> exact ⟨_, rfl⟩

theorem hostWrite_answers_next {width offset : Nat} {r : HostReg} (h : admitted width offset = some r) (v : Word)
    (s : State) : ∃ t, hostWrite width offset v s = .next t := by
  simp only [hostWrite, h]
  cases r with
  | cmd => exact presentCommand_answers_next v s
  | opnd | result | status | acc => exact ⟨_, rfl⟩

/-- Settles O43: admission is exactly the condition of R48, and decides both accesses. -/
theorem hostAccessAdmission : Obligations.HostAccessAdmission := by
  intro s width offset v
  rw [← admitted_eq_none]
  refine ⟨fun hcond => ?_, fun hnone => ⟨hostRead_refused hnone s, hostWrite_refused hnone v s⟩⟩
  obtain ⟨r, hr⟩ := Option.ne_none_iff_exists'.mp (mt admitted_eq_none.mp (not_not_intro hcond))
  exact ⟨⟨_, hostRead_admitted hr s⟩, hostWrite_answers_next hr v s⟩

/-- Settles O41: each offset names its register, and an admitted read hands over that register. -/
theorem hostReads : Obligations.HostReads := fun s =>
  ⟨hostRead_admitted (r := .cmd) rfl s, hostRead_admitted (r := .opnd) rfl s, hostRead_admitted (r := .result) rfl s,
    hostRead_admitted (r := .status) rfl s, hostRead_admitted (r := .acc) rfl s⟩

/-- Settles O42: the offset of each write selects its arm. -/
theorem hostWrites : Obligations.HostWrites := fun _ _ => ⟨rfl, rfl, rfl, rfl, rfl⟩

/-- Settles O32, by the two cases of a draw. -/
theorem answersAreDraws : Obligations.AnswersAreDraws :=
  ⟨fun _ _ _ => draw_fixed, fun _ => draw_free⟩

/-! ### An idle block -/

/-- Settles O55: an idle block's Sequencer stands still, and of the Host's moves only the command and the reset reach
the outcome. -/
theorem outcomeStandsUntilNextCommand : Obligations.OutcomeStandsUntilNextCommand := by
  intro s t hidle h hcmd hreset
  obtain ⟨rest, -, h⟩ | ⟨m, rest, hs, h⟩ := step_cases h
  · rw [sequencerStep_idle (s := { s with schedule := rest }) (s.not_busy_iff.mp hidle)] at h
    cases h
    exact ⟨rfl, rfl, rfl⟩
  · obtain ⟨w, rfl, -⟩ | ⟨rfl, -, -⟩ | ⟨_, _, _, rfl⟩ := hostStep_cases h
    · exact absurd hs (hcmd w rest)
    · exact absurd hs (hreset rest)
    · exact ⟨rfl, rfl, rfl⟩

end Sys2Proof.Machine
end

section
/-!
PROOFS. Progress: from a good state the only moves without a step are the Host's that R48 and R183 leave out. The
one place where the Sequencer could stop is the check of a received frame, and there the invariant gives the frame
the length that the latched transaction asks for.
-/

namespace Sys2Proof.Machine

/-! ### Payloads of the right length decode -/

theorem decode_of_length {w : Width} {p : List Byte} (sg : Signedness) (h : p.length = payloadBytes w) :
    (∃ v, decodeValue w sg p = some v) ∧ ∃ r, decodeWord w sg p = some r := by
  cases w with
  | w8 =>
    obtain ⟨b0, rfl⟩ := List.length_eq_one_iff.mp h
    exact ⟨⟨_, rfl⟩, _, rfl⟩
  | w16 =>
    obtain ⟨b0, b1, rfl⟩ := List.length_eq_two.mp h
    exact ⟨⟨_, rfl⟩, _, rfl⟩

/-- A read's payload of its own length has a value (R142). -/
theorem readValue_of_length {kind : TxnKind} {w : Width} {p : List Byte} (sg : Signedness)
    (l : Config.VersionLayout) (hkind : kind ≠ .wr) (h : p.length = payloadOf kind w) :
    ∃ r, readValue kind w sg l p = some r := by
  cases kind with
  | wr => exact absurd rfl hkind
  | rd => exact (decode_of_length sg h).2
  | rdver | rdupt =>
    obtain ⟨b0, b1, b2, b3, rfl⟩ := List.length_eq_four.mp h
    exact ⟨_, rfl⟩

/-! ### The check of a received frame -/

theorem writeVerify_answers_next {s : State} {p : List Byte} (h : p.length = payloadBytes s.tW) :
    ∃ t, s.writeVerify p = .next t := by
  obtain ⟨v, hv⟩ := (decode_of_length s.tS h).1
  simp only [State.writeVerify, hv]
  split <;> exact ⟨_, rfl⟩

theorem State.InReadLoop.readSucceeded_answers_next {s : State} (h : s.InReadLoop) {p : List Byte}
    (hlen : p.length = s.tN) : ∃ t, s.readSucceeded p = .next t := by
  have hpayload : p.length = payloadOf s.tOp s.tW := hlen.trans h.running.payload_length
  cases hn : s.nested with
  | true =>
    rw [h.nested_iff.mp hn] at hpayload
    simp only [State.readSucceeded, hn, if_true]
    exact writeVerify_answers_next hpayload
  | false =>
    have hread : s.tOp ≠ .wr := fun hop => by simp [h.nested_iff.mpr hop] at hn
    obtain ⟨r, hr⟩ := readValue_of_length s.tS s.cfg.versionLayout hread hpayload
    exact ⟨s.completeTransaction .ok r true, by simp [State.readSucceeded, hn, hr]⟩

theorem State.InReadLoop.checkFrame_answers_next {s : State} (h : s.InReadLoop)
    (hlen : s.rxbuf.length = s.tN + 1) : ∃ t, s.checkFrame = .next t := by
  unfold State.checkFrame
  split
  · next hsplit => exact absurd hlen (splitFrame_eq_none.mp hsplit)
  · next p c hsplit =>
    split
    · exact h.readSucceeded_answers_next (splitFrame_eq_some.mp hsplit).2
    · exact ⟨_, rfl⟩

/-! ### The Sequencer -/

theorem stepRClose_answers_next {s : State} (hs : s.Good) (hq : s.seqState = .rClose) :
    ∃ t, stepRClose s = .next t := by
  have loop : s.tClose.InReadLoop := (hs.toInReadLoop (by rw [hq]; rfl)).of_eraseBus rfl
  unfold stepRClose
  split
  · next hok => exact loop.checkFrame_answers_next (hs.received hq hok)
  · exact ⟨_, rfl⟩

/-- From a good state the Sequencer never faults: the `latchMismatch` of log 11 lies outside the invariant. -/
theorem sequencerStep_answers_next {s : State} (hs : s.Good) : ∃ t, sequencerStep s = .next t := by
  unfold sequencerStep
  generalize hq : s.seqState = q
  cases q with
  | idle | wWait | wXfer | rWait | rXfer => exact ⟨_, rfl⟩
  | wOpen => simp only [stepWOpen]; split <;> exact ⟨_, rfl⟩
  | wClose => simp only [stepWClose]; split <;> exact ⟨_, rfl⟩
  | rOpen => simp only [stepROpen]; split <;> exact ⟨_, rfl⟩
  | rClose => exact stepRClose_answers_next hs hq

/-! ### The Host -/

/-- What a Host move can answer, from any state. -/
theorem hostStep_answers (m : HostMove) (s : State) :
    (∃ t, hostStep m s = .next t) ∨
    (∃ width offset, admitted width offset = none ∧ hostStep m s = .refused .hostAccess ∧
      (m = .read width offset ∨ ∃ v, m = .write width offset v)) ∨
    (m = .reset ∧ s.busy = true ∧ hostStep m s = .refused .resetWhileBusy) := by
  cases m with
  | read width offset =>
    cases ha : admitted width offset with
    | none => exact .inr (.inl ⟨width, offset, ha, hostRead_refused ha s, .inl rfl⟩)
    | some r => exact .inl ⟨_, hostRead_admitted ha s⟩
  | write width offset v =>
    cases ha : admitted width offset with
    | none => exact .inr (.inl ⟨width, offset, ha, hostWrite_refused ha v s, .inr ⟨v, rfl⟩⟩)
    | some r => exact .inl (hostWrite_answers_next ha v s)
  | poll =>
    simp only [hostStep, hostPoll]
    split <;> exact .inl ⟨_, rfl⟩
  | reset =>
    cases hb : s.busy with
    | true => exact .inr (.inr ⟨rfl, rfl, by simp [hostStep, State.assertReset, hb]⟩)
    | false => exact .inl ⟨s.resetBlock, by simp [hostStep, State.assertReset, hb]⟩

/-- Settles O48: a Sequencer move goes on by the invariant, and a Host move stops only where R48 and R183 say. -/
theorem goodNeverFaults : Obligations.GoodNeverFaults := by
  intro s hs
  cases hm : s.schedule with
  | nil =>
    rw [step_of_empty hm]
    exact .inl (sequencerStep_answers_next hs)
  | cons m rest =>
    rw [step_of_cons hm]
    cases m with
    | sequencer => exact .inl (sequencerStep_answers_next (hs.outside s.ovr s.opnd s.portData rest))
    | host m =>
      obtain answered | ⟨width, offset, ha, hrefused, hmove⟩ | ⟨rfl, hbusy, hrefused⟩ :=
        hostStep_answers m { s with schedule := rest }
      · exact .inl answered
      · refine .inr (.inl ⟨width, offset, rest, ha, hrefused, ?_⟩)
        obtain rfl | ⟨v, rfl⟩ := hmove
        · exact .inl rfl
        · exact .inr ⟨v, rfl⟩
      · exact .inr (.inr ⟨rest, rfl, hbusy, hrefused⟩)

end Sys2Proof.Machine
end

section
/-!
PROOFS. The session discipline of the event history (R60, R61, R124, R150): each Sequencer step adds the one event
that the phase of its state allows, and stands in the phase after it; every other move keeps history and phase.
-/

namespace Sys2Proof.Machine

theorem phaseOf_append (h : List Event) (e : Event) :
    phaseOf (h ++ [e]) = (phaseOf h).bind fun p => p.after e := by
  simp [phaseOf]

/-- `t` has one event more than `s`, one that the phase of `s` allows, and stands in the phase after it. -/
def State.TakesTurn (s t : State) : Prop :=
  ∃ e, t.history = s.history ++ [e] ∧ s.seqState.phase.after e = some t.seqState.phase

theorem State.Disciplined.takesTurn {s t : State} (hs : s.Disciplined) (h : s.TakesTurn t) : t.Disciplined := by
  obtain ⟨e, hhistory, hafter⟩ := h
  rw [State.Disciplined, hhistory, phaseOf_append, hs]
  exact hafter

theorem State.Disciplined.keepsHistory {s t : State} (hs : s.Disciplined) (h : s.KeepsHistory t)
    (hphase : t.seqState.phase = s.seqState.phase) : t.Disciplined := by
  rw [State.Disciplined, h.history, hphase]
  exact hs

/-! ### The ends of attempts leave the bus closed -/

theorem writeAttemptEnd_phase (s : State) : s.writeAttemptEnd.seqState.phase = .closed := by
  unfold State.writeAttemptEnd
  split <;> rfl

theorem readFailed_phase (s : State) : s.readFailed.seqState.phase = .closed := by
  unfold State.readFailed
  split
  · exact writeAttemptEnd_phase _
  · rfl

theorem readAttemptEnd_phase (s : State) : s.readAttemptEnd.seqState.phase = .closed := by
  unfold State.readAttemptEnd
  split
  · rfl
  · exact readFailed_phase s

theorem checkFrame_phase {s t : State} (h : s.checkFrame = .next t) : t.seqState.phase = .closed := by
  obtain rfl | ⟨_, _, rfl⟩ | ⟨_, rfl | rfl⟩ := checkFrame_cases h
  · exact readAttemptEnd_phase _
  · rfl
  · rfl
  · exact writeAttemptEnd_phase _

/-! ### The event of each primitive, in its phase -/

/-- An open that fails leaves the bus closed, whatever then ends the attempt. -/
theorem openFailed_takesTurn {s t : State} (hphase : s.seqState.phase = .closed) (hfail : ¬s.tOpen.1 = true)
    (hkept : s.tOpen.2.KeepsHistory t) (ht : t.seqState.phase = .closed) : s.TakesTurn t :=
  ⟨_, hkept.history.trans s.tOpen_history, by simp [hphase, ht, hfail, Phase.after]⟩

/-- A close ends the session, whatever then ends the attempt. -/
theorem close_takesTurn {s t : State} (hphase : s.seqState.phase = .transferred)
    (hkept : s.tClose.KeepsHistory t) (ht : t.seqState.phase = .closed) : s.TakesTurn t :=
  ⟨_, hkept.history.trans s.tClose_history, by simp [hphase, ht, Phase.after]⟩

theorem stepWOpen_takesTurn {s t : State} (hq : s.seqState = .wOpen) (h : stepWOpen s = .next t) :
    s.TakesTurn t := by
  unfold stepWOpen at h
  split at h <;> cases h
  · next hok => exact ⟨_, s.tOpen_history, by simp [hq, hok, SeqState.phase, Phase.after]⟩
  · next hfail =>
    exact openFailed_takesTurn (by rw [hq]; rfl) hfail (.writeAttemptEnd ⟨rfl, rfl⟩) (writeAttemptEnd_phase _)

theorem stepROpen_takesTurn {s t : State} (hq : s.seqState = .rOpen) (h : stepROpen s = .next t) :
    s.TakesTurn t := by
  unfold stepROpen at h
  split at h <;> cases h
  · next hok => exact ⟨_, s.tOpen_history, by simp [hq, hok, SeqState.phase, Phase.after]⟩
  · next hfail =>
    exact openFailed_takesTurn (by rw [hq]; rfl) hfail (.readAttemptEnd ⟨rfl, rfl⟩) (readAttemptEnd_phase _)

theorem stepWXfer_takesTurn {s t : State} (hq : s.seqState = .wXfer) (h : stepWXfer s = .next t) :
    s.TakesTurn t := by
  cases h
  exact ⟨_, s.tWriteBlock_history s.tReg s.tTx, by rw [hq]; rfl⟩

theorem stepRXfer_takesTurn {s t : State} (hq : s.seqState = .rXfer) (h : stepRXfer s = .next t) :
    s.TakesTurn t := by
  cases h
  exact ⟨_, (takeAnswer_keepsHistory _ _).history.trans (s.tReadBlock_history s.tReg (s.tN + 1)), by rw [hq]; rfl⟩

theorem stepWClose_takesTurn {s t : State} (hq : s.seqState = .wClose) (h : stepWClose s = .next t) :
    s.TakesTurn t := by
  unfold stepWClose at h
  split at h <;> cases h
  · exact close_takesTurn (by rw [hq]; rfl) ⟨rfl, rfl⟩ rfl
  · exact close_takesTurn (by rw [hq]; rfl) (.writeAttemptEnd ⟨rfl, rfl⟩) (writeAttemptEnd_phase _)

theorem stepRClose_takesTurn {s t : State} (hq : s.seqState = .rClose) (h : stepRClose s = .next t) :
    s.TakesTurn t := by
  unfold stepRClose at h
  split at h
  · exact close_takesTurn (by rw [hq]; rfl) (checkFrame_keepsHistory h) (checkFrame_phase h)
  · cases h
    exact close_takesTurn (by rw [hq]; rfl) (.readAttemptEnd ⟨rfl, rfl⟩) (readAttemptEnd_phase _)

theorem sequencerStep_disciplined {s t : State} (hs : s.Disciplined) (h : sequencerStep s = .next t) :
    t.Disciplined := by
  unfold sequencerStep at h
  generalize hq : s.seqState = q at h
  cases q with
  | idle => cases h; exact hs
  | wOpen => exact hs.takesTurn (stepWOpen_takesTurn hq h)
  | wWait | rWait => cases h; exact hs.takesTurn ⟨_, s.wait_history, by rw [hq]; rfl⟩
  | wXfer => exact hs.takesTurn (stepWXfer_takesTurn hq h)
  | wClose => exact hs.takesTurn (stepWClose_takesTurn hq h)
  | rOpen => exact hs.takesTurn (stepROpen_takesTurn hq h)
  | rXfer => exact hs.takesTurn (stepRXfer_takesTurn hq h)
  | rClose => exact hs.takesTurn (stepRClose_takesTurn hq h)

/-! ### Commands start with the bus closed -/

theorem accept_phase {s t : State} {body : State → State} (h : s.accept body = .next t)
    (hbody : ∀ u : State, (body u).seqState.phase = .closed) : t.seqState.phase = s.seqState.phase := by
  obtain ⟨_, rfl⟩ | ⟨hidle, rfl⟩ := accept_cases h
  · rfl
  · rw [hbody, s.not_busy_iff.mp hidle]
    rfl

theorem encodeOpnd_phase (w : Width) (sg : Signedness) (s : State) :
    (s.encodeOpnd w sg).seqState.phase = .closed := by
  unfold State.encodeOpnd
  split <;> rfl

theorem startWrite_phase (w : Width) (sg : Signedness) (reg : Byte) (s : State) :
    (s.startWrite w sg reg).seqState.phase = .closed := by
  unfold State.startWrite
  split <;> rfl

theorem exec_phase {i : Instr} {s t : State} (h : exec i s = .next t) :
    t.seqState.phase = s.seqState.phase := by
  cases i with
  | enc8u | enc8s | enc16u | enc16s => exact accept_phase h (encodeOpnd_phase _ _)
  | wr8u reg | wr8s reg | wr16u reg | wr16s reg => exact accept_phase h (startWrite_phase _ _ reg)
  | _ => exact accept_phase h fun _ => rfl

theorem presentCommand_phase {w : Word} {s t : State} (h : presentCommand w s = .next t) :
    t.seqState.phase = s.seqState.phase := by
  cases hd : decode w with
  | ok i => exact exec_phase ((presentCommand_ok hd s).symm.trans h)
  | error e => exact accept_phase ((presentCommand_error hd s).symm.trans h) fun _ => rfl

theorem hostStep_phase {m : HostMove} {s t : State} (h : hostStep m s = .next t) :
    t.seqState.phase = s.seqState.phase := by
  obtain ⟨w, rfl, hcmd⟩ | ⟨rfl, hidle, rfl⟩ | ⟨_, _, _, rfl⟩ := hostStep_cases h
  · exact presentCommand_phase hcmd
  · rw [s.not_busy_iff.mp hidle]
    rfl
  · rfl

/-- Settles O50: a Sequencer step takes its turn on the bus, and a Host move keeps both the history and the phase. -/
theorem stepKeepsDiscipline : Obligations.StepKeepsDiscipline := by
  intro s t hs h
  obtain ⟨rest, -, h⟩ | ⟨m, rest, -, h⟩ := step_cases h
  · exact sequencerStep_disciplined (s := { s with schedule := rest }) hs h
  · exact State.Disciplined.keepsHistory (s := { s with schedule := rest }) hs (hostStep_keepsHistory h)
      (hostStep_phase h)

end Sys2Proof.Machine
end

section
/-!
PROOFS. The decoder inverts the encoder (R76 to R82): a word and its fields determine each other, and the check of
R78 passes exactly the fields that some command has.
-/

namespace Sys2Proof

/-! ### Words and fields -/

/-- Putting the fields of a word together gives the word back. -/
theorem Fields.toWord_ofWord (w : Word) : (Fields.ofWord w).toWord = w := by
  simp only [Fields.ofWord, Fields.toWord]
  iterate 6 rw [BitVec.extractLsb'_append_extractLsb'_eq_extractLsb' (by rfl)]
  exact BitVec.extractLsb'_eq_self

theorem Fields.ofWord_injective : Function.Injective Fields.ofWord :=
  Function.LeftInverse.injective Fields.toWord_ofWord

/-- The fields of two words ANDed, field by field. -/
def Fields.and (f g : Fields) : Fields where
  op   := f.op &&& g.op
  s    := f.s &&& g.s
  w    := f.w &&& g.w
  rsv  := f.rsv &&& g.rsv
  reg  := f.reg &&& g.reg
  immA := f.immA &&& g.immA
  immB := f.immB &&& g.immB

theorem Fields.ofWord_and (v w : Word) : Fields.ofWord (v &&& w) = (Fields.ofWord v).and (Fields.ofWord w) := by
  simp only [Fields.ofWord, Fields.and, BitVec.extractLsb'_and]

/-! ### The check of R78 -/

/-- The value of `OP` of each operation (R77): the inverse of `Op.ofCode`. -/
def Op.code : Op → BitVec 4
  | .crcb  => 0x1#4
  | .crca  => 0x2#4
  | .crcd  => 0x3#4
  | .enc   => 0x4#4
  | .dec   => 0x5#4
  | .dec24 => 0x6#4
  | .wr    => 0x7#4
  | .rd    => 0x8#4
  | .rdver => 0x9#4
  | .rdupt => 0xA#4

theorem Op.ofCode_eq_some {c : BitVec 4} {o : Op} : Op.ofCode c = some o ↔ c = o.code := by
  revert c
  cases o <;> decide

/-- `RSV` and every field that the operation `o` does not use are zero (R78). -/
structure Fields.ZeroUnless (f : Fields) (o : Op) : Prop where
  rsv  : f.rsv = 0
  s    : o.fieldUse.s = false → f.s = 0
  w    : o.fieldUse.w = false → f.w = 0
  reg  : o.fieldUse.reg = false → f.reg = 0
  immA : o.fieldUse.immA = false → f.immA = 0
  immB : o.fieldUse.immB = false → f.immB = 0

/-- The check passes an operation exactly where `OP` holds its code and no other field is used. -/
theorem Fields.check_eq_ok {f : Fields} {o : Op} : f.check = .ok o ↔ f.op = o.code ∧ f.ZeroUnless o := by
  rw [← Op.ofCode_eq_some]
  unfold Fields.check
  constructor
  · intro h
    split at h
    · cases h
    · split_ifs at h
      cases h
      grind [Fields.ZeroUnless]
  · rintro ⟨hop, h⟩
    rw [hop]
    grind [Fields.ZeroUnless]

/-- The fields of a command pass the check, and spell the command. -/
theorem Instr.fields_check (i : Instr) : ∃ o, i.fields.check = .ok o ∧ o.instr i.fields = i := by
  cases i <;> exact ⟨_, rfl, rfl⟩

/-- The fields of the command that `o` spells with `f`: the code of `o`, the fields it uses as they stand, and zero
in every other. -/
theorem Op.instr_fields (o : Op) (f : Fields) : (o.instr f).fields =
    { op   := o.code
      s    := if o.fieldUse.s then f.s else 0
      w    := if o.fieldUse.w then f.w else 0
      rsv  := 0
      reg  := if o.fieldUse.reg then f.reg else 0
      immA := if o.fieldUse.immA then f.immA else 0
      immB := if o.fieldUse.immB then f.immB else 0 } := by
  obtain ⟨op, s, w, rsv, reg, immA, immB⟩ := f
  cases o with
  | enc | dec | wr | rd =>
    obtain rfl | rfl := s.eq_zero_or_eq_one <;> obtain rfl | rfl := w.eq_zero_or_eq_one <;> rfl
  | _ => rfl

/-- Fields that pass the check are the fields of the command they spell. -/
theorem Fields.fields_instr {f : Fields} {o : Op} (h : f.check = .ok o) : (o.instr f).fields = f := by
  obtain ⟨hop, h⟩ := Fields.check_eq_ok.mp h
  rw [Op.instr_fields]
  grind [Fields.ZeroUnless, Fields]

/-! ### The decoder inverts the encoder -/

theorem decode_eq_ok {w : Word} {i : Instr} :
    decode w = .ok i ↔ ∃ o, (Fields.ofWord w).check = .ok o ∧ o.instr (Fields.ofWord w) = i := by
  unfold decode
  cases (Fields.ofWord w).check <;> simp

theorem decode_encode (i : Instr) : decode (encode i) = .ok i := by
  rw [decode_eq_ok, encode, Fields.ofWord_toWord]
  exact i.fields_check

theorem encode_of_decode {w : Word} {i : Instr} (h : decode w = .ok i) : encode i = w := by
  obtain ⟨o, hcheck, rfl⟩ := decode_eq_ok.mp h
  rw [encode, Fields.fields_instr hcheck, Fields.toWord_ofWord]

theorem decode_eq_ok_iff_encode {w : Word} {i : Instr} : decode w = .ok i ↔ encode i = w :=
  ⟨encode_of_decode, fun h => h ▸ decode_encode i⟩

end Sys2Proof
end

section
/-!
PROOFS. The opcode map (R82): one row for each operation with the `S` and `W` it allows, whose mask covers the fields
that R78 holds at zero, so that a word matches the row exactly where its fields pass the check as that operation.
-/

namespace Sys2Proof

/-! ### The rows of the map -/

/-- The operations, in the order of the map. -/
def Op.all : List Op := [.crcb, .crca, .crcd, .enc, .dec, .dec24, .wr, .rd, .rdver, .rdupt]

/-- The values of `S` and `W` that an operation has rows for, in the order of R81. -/
def Op.variants (o : Op) : List (BitVec 1 × BitVec 1) :=
  if o.fieldUse.s = true then [(0, 0), (1, 0), (0, 1), (1, 1)] else [(0, 0)]

/-- The mask of the rows of `o`: every field but its operands. -/
def Op.maskFields (o : Op) : Fields where
  op   := .allOnes 4
  s    := .allOnes 1
  w    := .allOnes 1
  rsv  := .allOnes 2
  reg  := if o.fieldUse.reg = true then 0 else .allOnes 8
  immA := if o.fieldUse.immA = true then 0 else .allOnes 8
  immB := if o.fieldUse.immB = true then 0 else .allOnes 8

/-- The row of `o` with `S` and `W`. -/
def Op.row (o : Op) (s w : BitVec 1) : OpcodeRow where
  mnemonic := (o.instr (Fields.bare o.code s w)).mnemonic
  pattern  := (Fields.bare o.code s w).toWord
  mask     := o.maskFields.toWord

theorem opcodeMap_eq_rows : opcodeMap = Op.all.flatMap fun o => o.variants.map fun v => o.row v.1 v.2 := by
  decide

theorem Op.mem_all (o : Op) : o ∈ Op.all := by
  cases o <;> decide

theorem mem_opcodeMap {r : OpcodeRow} : r ∈ opcodeMap ↔ ∃ o s w, (s, w) ∈ Op.variants o ∧ r = o.row s w := by
  simp [opcodeMap_eq_rows, Op.mem_all, eq_comm]

theorem Op.mem_variants {o : Op} {s w : BitVec 1} :
    (s, w) ∈ o.variants ↔ (o.fieldUse.s = false → s = 0) ∧ (o.fieldUse.w = false → w = 0) := by
  revert s w
  cases o <;> decide

/-- The operands of a command are no part of its mnemonic. -/
theorem Op.row_mnemonic (o : Op) (f : Fields) : (o.row f.s f.w).mnemonic = (o.instr f).mnemonic := by
  obtain ⟨op, s, w, rsv, reg, immA, immB⟩ := f
  cases o with
  | enc | dec | wr | rd =>
    obtain rfl | rfl := s.eq_zero_or_eq_one <;> obtain rfl | rfl := w.eq_zero_or_eq_one <;> rfl
  | _ => rfl

/-! ### Matching a row -/

theorem and_ite_allOnes_eq_zero {n : Nat} (b : BitVec n) (u : Bool) :
    b &&& (if u = true then 0 else .allOnes n) = 0 ↔ (u = false → b = 0) := by
  cases u <;> simp

/-- A word matches the row of `o`, `S` and `W` exactly where its fields pass the check as `o` with that `S` and `W`. -/
theorem Op.matches_row {o : Op} {s w : BitVec 1} (h : (s, w) ∈ o.variants) (v : Word) :
    v &&& (o.row s w).mask = (o.row s w).pattern ↔
      (Fields.ofWord v).check = .ok o ∧ (Fields.ofWord v).s = s ∧ (Fields.ofWord v).w = w := by
  rw [← Fields.ofWord_injective.eq_iff, Fields.ofWord_and, Fields.check_eq_ok]
  simp only [Op.row, Fields.ofWord_toWord, Fields.and, Op.maskFields, Fields.bare, Fields.mk.injEq,
    BitVec.and_allOnes, and_ite_allOnes_eq_zero]
  constructor
  · rintro ⟨hop, rfl, rfl, hrsv, hreg, himmA, himmB⟩
    obtain ⟨hs, hw⟩ := Op.mem_variants.mp h
    exact ⟨⟨hop, hrsv, hs, hw, hreg, himmA, himmB⟩, rfl, rfl⟩
  · rintro ⟨⟨hop, hzero⟩, rfl, rfl⟩
    exact ⟨hop, rfl, rfl, hzero.rsv, hzero.reg, hzero.immA, hzero.immB⟩

/-- A word whose fields pass the check matches a row with the mnemonic of the command it spells. -/
theorem exists_row_of_check {v : Word} {o : Op} (h : (Fields.ofWord v).check = .ok o) :
    ∃ r ∈ opcodeMap, r.mnemonic = (o.instr (Fields.ofWord v)).mnemonic ∧ v &&& r.mask = r.pattern := by
  obtain ⟨-, hzero⟩ := Fields.check_eq_ok.mp h
  have hvariant := Op.mem_variants.mpr ⟨hzero.s, hzero.w⟩
  exact ⟨_, mem_opcodeMap.mpr ⟨o, _, _, hvariant, rfl⟩, o.row_mnemonic _,
    (Op.matches_row hvariant v).mpr ⟨h, rfl, rfl⟩⟩

/-- A word decodes exactly where it matches a row. -/
theorem exists_decode_iff_exists_row (v : Word) :
    (∃ i, decode v = .ok i) ↔ ∃ r ∈ opcodeMap, v &&& r.mask = r.pattern := by
  constructor
  · rintro ⟨i, h⟩
    obtain ⟨o, hcheck, -⟩ := decode_eq_ok.mp h
    obtain ⟨r, hr, -, hmatch⟩ := exists_row_of_check hcheck
    exact ⟨r, hr, hmatch⟩
  · rintro ⟨r, hr, hmatch⟩
    obtain ⟨o, s, w, hvariant, rfl⟩ := mem_opcodeMap.mp hr
    obtain ⟨hcheck, -⟩ := (Op.matches_row hvariant v).mp hmatch
    exact ⟨_, decode_eq_ok.mpr ⟨o, hcheck, rfl⟩⟩

/-- Two rows whose patterns differ under both masks match no common word. -/
theorem not_matches_both {r r' : OpcodeRow} (h : r.pattern &&& r'.mask ≠ r'.pattern &&& r.mask) (w : Word) :
    ¬(w &&& r.mask = r.pattern ∧ w &&& r'.mask = r'.pattern) := by
  rintro ⟨hr, hr'⟩
  apply h
  rw [← hr, ← hr', BitVec.and_assoc, BitVec.and_assoc, BitVec.and_comm r.mask]

theorem opcodeMap_pairwise_disjoint : opcodeMap.Pairwise fun r r' =>
    ∀ w : Word, ¬(w &&& r.mask = r.pattern ∧ w &&& r'.mask = r'.pattern) :=
  List.Pairwise.imp not_matches_both (by decide)

end Sys2Proof
end

section
/-!
PROOFS. What the encoding gives the block: the decoder is the map, a word outside the map completes as an
illegal command (R83), and a streamed checksum runs as the checksum of its bytes (R87, R100).
-/

namespace Sys2Proof.Machine

/-- Settles O13: the fields of a command are cut from its word again, and they spell it. -/
theorem decodeEncode : Obligations.DecodeEncode := fun i _ => decode_encode i

/-- Settles O14: a row matches a word exactly where the word's fields pass the check as the row's operation. -/
theorem decodeIsOpcodeMap : Obligations.DecodeIsOpcodeMap := by
  refine ⟨opcodeMap_pairwise_disjoint, exists_decode_iff_exists_row, fun w i h => ?_, fun _ _ => encode_of_decode⟩
  obtain ⟨o, hcheck, rfl⟩ := decode_eq_ok.mp h
  exact exists_row_of_check hcheck

/-- Settles O15: each word is the encoding of its command. -/
theorem decodeSampleWords : Obligations.DecodeSampleWords := by
  simp only [Obligations.DecodeSampleWords, decode_eq_ok_iff_encode]
  decide

/-- Settles O16, mnemonic by mnemonic. -/
theorem assemblerReadsMnemonics : Obligations.AssemblerReadsMnemonics := by
  intro i
  cases i <;> rfl

theorem illegalCommand_idle {s : State} (h : s.busy = false) :
    illegalCommand s = .next (s.completedAs .illegalCmd 0 false) :=
  accept_idle _ h

/-- Settles O19: a word that matches no row does not decode. -/
theorem illegalWordCompletes : Obligations.IllegalWordCompletes := by
  intro s w hidle hnone
  cases hd : decode w with
  | ok i =>
    obtain ⟨r, hr, hmatch⟩ := (exists_decode_iff_exists_row w).mp ⟨i, hd⟩
    exact absurd hmatch (hnone r hr)
  | error e => rw [presentCommand_error hd, illegalCommand_idle hidle]

/-! ### A streamed checksum -/

theorem step_issue {s : State} {i : Instr} {rest : List Move} (h : s.schedule = issue i :: rest) :
    step s = exec i { s with schedule := rest } := by
  rw [step_of_cons h]
  exact presentCommand_ok (decode_encode i) _

/-- `s` after a streamed checksum has come to `c`, with `rest` still to run (R99, R100). -/
def State.streamed (s : State) (c : Byte) (rest : List Move) : State :=
  { s.completedAs .ok (c.setWidth 32) true with acc := c, schedule := rest }

theorem step_crca {s : State} {reg : Byte} {rest : List Move} (hidle : s.busy = false)
    (h : s.schedule = issue (.crca reg) :: rest) : step s = .next (s.streamed (crcFold 0 reg) rest) :=
  (step_issue h).trans (accept_idle _ hidle)

theorem step_crcd {s : State} {b : Byte} {rest : List Move} (hidle : s.busy = false)
    (h : s.schedule = issue (.crcd b) :: rest) : step s = .next (s.streamed (crcFold s.acc b) rest) :=
  (step_issue h).trans (accept_idle _ hidle)

/-- A streamed checksum that has come to `c` goes on over the bytes of its CRCDs. -/
theorem runSteps_crcd (s : State) (bytes : List Byte) (rest : List Move) (c : Byte) :
    runSteps bytes.length (s.streamed c (bytes.map (fun b => issue (.crcd b)) ++ rest)) =
      .next (s.streamed (bytes.foldl crcFold c) rest) := by
  induction bytes generalizing c with
  | nil => rfl
  | cons b bytes ih =>
    have hstep : step (s.streamed c ((b :: bytes).map (fun b => issue (.crcd b)) ++ rest)) =
        .next (s.streamed (crcFold c b) (bytes.map (fun b => issue (.crcd b)) ++ rest)) := step_crcd rfl rfl
    exact (runSteps_succ _ hstep).trans (ih (crcFold c b))

/-- Settles O23: CRCA folds the address, and each CRCD after it folds its byte into what `ACC` holds. -/
theorem crcStreamIsOver : Obligations.CrcStreamIsOver := by
  intro s reg bytes rest hidle hschedule
  rw [Nat.add_comm, runSteps_succ _ (step_crca hidle hschedule)]
  exact runSteps_crcd s bytes rest (crcFold 0 reg)

end Sys2Proof.Machine
end

section
/-!
PROOFS. The checksum (R88 to R97). One bit step is linear over XOR and loses no bit of the accumulator; from these two
facts the fold depends on `seed ^ data` alone (R93) and is injective in either argument (R94 to R96).
-/

namespace Sys2Proof.Machine

/-! ### One bit step -/

theorem crcStep_toNat (acc : Byte) (b : Bool) : (crcStep acc b).toNat =
    if (acc.toNat.testBit 7 ^^ b) = true then (acc.toNat <<< 1) % 256 ^^^ 0x31 else (acc.toNat <<< 1) % 256 := by
  unfold crcStep BitVec.getLsbD
  split
  · exact (BitVec.toNat_xor _ _).trans (congrArg (· ^^^ 0x31) BitVec.toNat_shiftLeft)
  · exact BitVec.toNat_shiftLeft

/-- `0x31` fits in a byte, so that masking before and after the XOR is the same (R88). -/
theorem shiftLeft_xor_poly_mod (n : Nat) : ((n <<< 1) ^^^ 0x31) % 256 = (n <<< 1) % 256 ^^^ 0x31 :=
  Nat.xor_mod_two_pow (n := 8)

theorem crcStep_toNat_masked_last (acc : Byte) (b : Bool) : (crcStep acc b).toNat =
    if (acc.toNat.testBit 7 ^^ b) = true then ((acc.toNat <<< 1) ^^^ 0x31) % 256 else (acc.toNat <<< 1) % 256 := by
  rw [shiftLeft_xor_poly_mod, crcStep_toNat]

/-- Where the accumulator's top bit is the input bit there is no feedback. -/
theorem crcStep_of_top_eq {acc : Byte} {b : Bool} (h : acc.getLsbD 7 = b) : crcStep acc b = acc <<< 1 := by
  rw [crcStep, h, Bool.xor_self, if_neg Bool.false_ne_true]

/-- What a step XORs in: the polynomial where there is feedback (R88). -/
def crcFeedback (b : Bool) : Byte := if b = true then crcPoly else 0x00

theorem crcFeedback_xor (b b' : Bool) : crcFeedback (b ^^ b') = crcFeedback b ^^^ crcFeedback b' := by
  decide +revert

/-- Bit 0 of the polynomial is set. -/
theorem crcFeedback_getLsbD_zero (b : Bool) : (crcFeedback b).getLsbD 0 = b := by
  decide +revert

theorem crcStep_eq_xor (acc : Byte) (b : Bool) :
    crcStep acc b = acc <<< 1 ^^^ crcFeedback (acc.getLsbD 7 ^^ b) := by
  unfold crcStep crcFeedback
  split
  · rfl
  · exact BitVec.xor_zero.symm

/-- A bit step is linear over XOR. -/
theorem crcStep_xor (acc acc' : Byte) (b b' : Bool) :
    crcStep (acc ^^^ acc') (b ^^ b') = crcStep acc b ^^^ crcStep acc' b' := by
  simp only [crcStep_eq_xor, BitVec.getLsbD_xor, BitVec.shiftLeft_xor_distrib, crcFeedback_xor]
  ac_rfl

theorem crcStep_getLsbD_zero (acc : Byte) (b : Bool) : (crcStep acc b).getLsbD 0 = (acc.getLsbD 7 ^^ b) := by
  rw [crcStep_eq_xor, BitVec.getLsbD_xor, crcFeedback_getLsbD_zero, BitVec.getLsbD_shiftLeft]
  exact Bool.false_xor _

/-- A bit step loses nothing: its bit 0 tells the top bit that was shifted out, and with it the other seven. -/
theorem crcStep_injective (b : Bool) : Function.Injective (crcStep · b) := by
  intro acc acc' (h : crcStep acc b = crcStep acc' b)
  have htop : acc.getLsbD 7 = acc'.getLsbD 7 := by
    have hbit := congrArg (·.getLsbD 0) h
    simpa only [crcStep_getLsbD_zero, Bool.xor_left_inj] using hbit
  have hshift : acc <<< 1 = acc' <<< 1 := by
    rwa [crcStep_eq_xor, crcStep_eq_xor, htop, BitVec.xor_left_inj] at h
  ext k hk
  obtain rfl | hlow : k = 7 ∨ k < 7 := by omega
  · simpa using htop
  · have hbit := congrArg (·.getLsbD (k + 1)) hshift
    simpa [show k + 1 < 8 by omega] using hbit

/-! ### The fold of a byte -/

/-- A fold whose every step is injective is injective in its start. -/
theorem foldl_injective {α β : Type} {f : α → β → α} (hf : ∀ b, Function.Injective (f · b)) (l : List β) :
    Function.Injective (l.foldl f ·) := by
  induction l with
  | nil => exact Function.injective_id
  | cons b l ih => exact ih.comp (hf b)

/-- Eight bit steps, most significant bit first (R89). -/
theorem crcFold_eq_steps (s d : Byte) : crcFold s d =
    crcStep (crcStep (crcStep (crcStep (crcStep (crcStep (crcStep (crcStep s (d.getLsbD 7)) (d.getLsbD 6))
      (d.getLsbD 5)) (d.getLsbD 4)) (d.getLsbD 3)) (d.getLsbD 2)) (d.getLsbD 1)) (d.getLsbD 0) := by
  simp only [crcFold, List.foldl_cons, List.foldl_nil]

theorem crcFold_xor (s s' d d' : Byte) : crcFold (s ^^^ s') (d ^^^ d') = crcFold s d ^^^ crcFold s' d' := by
  simp only [crcFold_eq_steps, BitVec.getLsbD_xor, crcStep_xor]

/-- Folding a byte into itself meets no feedback and shifts every bit out. -/
theorem crcFold_self (d : Byte) : crcFold d d = 0x00 := by
  simp [crcFold_eq_steps, crcStep_of_top_eq, ← BitVec.shiftLeft_add]

/-- The seed law (R93): the seed may be XORed out of both arguments. -/
theorem crcFold_eq_crcFold_zero (s d : Byte) : crcFold s d = crcFold 0x00 (s ^^^ d) := by
  calc crcFold s d = crcFold s d ^^^ crcFold s s := by rw [crcFold_self]; exact BitVec.xor_zero.symm
    _ = crcFold (s ^^^ s) (d ^^^ s) := (crcFold_xor s s d s).symm
    _ = crcFold 0x00 (s ^^^ d) := by rw [BitVec.xor_self, BitVec.xor_comm d]; rfl

theorem crcFold_comm (s d : Byte) : crcFold s d = crcFold d s := by
  rw [crcFold_eq_crcFold_zero, BitVec.xor_comm, ← crcFold_eq_crcFold_zero]

theorem crcFold_injective_seed (d : Byte) : Function.Injective (crcFold · d) :=
  foldl_injective (fun i => crcStep_injective (d.getLsbD i)) _

theorem crcFold_injective_data (s : Byte) : Function.Injective (crcFold s) := by
  intro d d' h
  rw [crcFold_comm s, crcFold_comm s] at h
  exact crcFold_injective_seed s h

theorem crcFold_eq_zero {s d : Byte} : crcFold s d = 0x00 ↔ d = s := by
  rw [← crcFold_self s, (crcFold_injective_data s).eq_iff]

/-! ### The source's shift form -/

/-- One step of the shift form is one bit step over bit `7 - k` of the data byte (R89). -/
theorem shiftStep_eq_crcStep {n k : Nat} (h : n + k = 7) (acc d : Byte) :
    (if (acc.toNat ^^^ (d.toNat <<< k)).testBit 7 then ((acc.toNat <<< 1) ^^^ 0x31) % 256
      else (acc.toNat <<< 1) % 256) = (crcStep acc (d.getLsbD n)).toNat := by
  obtain rfl : n = 7 - k := by omega
  have hk : k ≤ 7 := by omega
  rw [crcStep_toNat_masked_last, Nat.testBit_xor, Nat.testBit_shiftLeft, decide_eq_true hk, Bool.true_and]
  rfl

theorem crcShiftSteps_eq_foldl (d : Byte) {n k : Nat} (h : n + k = 8) (acc : Byte) :
    crcShiftSteps d.toNat n k acc.toNat =
      ((List.range n).reverse.foldl (fun a i => crcStep a (d.getLsbD i)) acc).toNat := by
  induction n generalizing k acc with
  | zero => rfl
  | succ n ih =>
    rw [crcShiftSteps, shiftStep_eq_crcStep (n := n) (by omega), ih (by omega), List.range_succ, List.reverse_concat,
      List.foldl_cons]

theorem crcFoldShift_eq_crcFold (s d : Byte) : crcFoldShift s d = crcFold s d := by
  rw [crcFoldShift, crcShiftSteps_eq_foldl d rfl, BitVec.ofNat_toNat, BitVec.setWidth_eq]
  rfl

/-! ### The table of R97 -/

/-- The fold from 0 of the `k` bytes from `n` on: a run of entries of `TBL`. -/
def crcTableFrom (n k : Nat) : List Byte := (List.range' n k).map fun x => crcFold 0x00 (BitVec.ofNat 8 x)

theorem crcTableFrom_append (n k m : Nat) : crcTableFrom n k ++ crcTableFrom (n + k) m = crcTableFrom n (k + m) := by
  rw [crcTableFrom, crcTableFrom, crcTableFrom, ← List.map_append, List.range'_append_1]

/-- Rows of 16 entries, four to a quarter, as the table is printed. -/
theorem crcTableFrom_quarter (n : Nat) : crcTableFrom n 64 =
    crcTableFrom n 16 ++ crcTableFrom (n + 16) 16 ++ crcTableFrom (n + 32) 16 ++ crcTableFrom (n + 48) 16 := by
  rw [crcTableFrom_append, crcTableFrom_append, crcTableFrom_append]

theorem crcTable0_eq : crcTable0 = crcTableFrom 0 64 := by rw [crcTable0, crcTableFrom_quarter]; rfl
theorem crcTable1_eq : crcTable1 = crcTableFrom 64 64 := by rw [crcTable1, crcTableFrom_quarter]; rfl
theorem crcTable2_eq : crcTable2 = crcTableFrom 128 64 := by rw [crcTable2, crcTableFrom_quarter]; rfl
theorem crcTable3_eq : crcTable3 = crcTableFrom 192 64 := by rw [crcTable3, crcTableFrom_quarter]; rfl

theorem crcTable_eq : crcTable = crcTableFrom 0 256 := by
  rw [crcTable, crcTable0_eq, crcTable1_eq, crcTable2_eq, crcTable3_eq, crcTableFrom_append 0 64 64,
    crcTableFrom_append 0 128 64, crcTableFrom_append 0 192 64]

theorem crcTable_length : crcTable.length = 256 := by
  rw [crcTable_eq, crcTableFrom, List.length_map, List.length_range']

theorem crcTable_getElem? (x : Byte) : crcTable[x.toNat]? = some (crcFold 0x00 x) := by
  rw [crcTable_eq, crcTableFrom, ← List.range_eq_range', List.getElem?_map, List.getElem?_range x.isLt,
    Option.map_some, BitVec.ofNat_toNat, BitVec.setWidth_eq]

/-! ### The checksum of an address and a payload -/

theorem crcOver_nil (a : Byte) : crcOver a [] = crcFold 0x00 a := List.foldl_nil

theorem crcOver_append (a : Byte) (p q : List Byte) : crcOver a (p ++ q) = q.foldl crcFold (crcOver a p) :=
  List.foldl_append

theorem crcOver_append_singleton (a : Byte) (p : List Byte) (b : Byte) :
    crcOver a (p ++ [b]) = crcFold (crcOver a p) b :=
  crcOver_append a p [b]

theorem crcOver_injective_address (p : List Byte) : Function.Injective (crcOver · p) :=
  (foldl_injective crcFold_injective_seed p).comp (crcFold_injective_data 0x00)

/-- Any one byte of the payload shows in the checksum (R94, R96). -/
theorem crcOver_injective_byte (a : Byte) (p q : List Byte) :
    Function.Injective fun b => crcOver a (p ++ b :: q) := by
  simp only [crcOver_append]
  exact (foldl_injective crcFold_injective_seed q).comp (crcFold_injective_data (crcOver a p))

theorem crcOver_zero_replicate (n : Nat) : crcOver 0x00 (List.replicate n 0x00) = 0x00 := by
  induction n with
  | zero => rw [List.replicate_zero, crcOver_nil, crcFold_self]
  | succ n ih => rw [List.replicate_succ', crcOver_append_singleton, ih, crcFold_self]

/-! ### The statements -/

/-- Settles O1: the step in integers, with the mask in either place. -/
theorem crcBitStep : Obligations.CrcBitStep := fun acc b => ⟨crcStep_toNat acc b, crcStep_toNat_masked_last acc b⟩

/-- Settles O2, step by step of the shift form. -/
theorem crcFoldIsShiftForm : Obligations.CrcFoldIsShiftForm :=
  fun s d => ⟨crcFold_eq_steps s d, (crcFoldShift_eq_crcFold s d).symm⟩

/-- Settles O3, by the definition of the fold over a payload. -/
theorem crcOverFoldsInOrder : Obligations.CrcOverFoldsInOrder := ⟨crcOver_nil, crcOver_append_singleton⟩

/-- Settles O4, from the linearity of the fold and, for the table, its values from 0. -/
theorem crcSeedLawAndTable : Obligations.CrcSeedLawAndTable := by
  refine ⟨fun s d => ⟨crcFold_eq_crcFold_zero s d, ?_⟩, crcTable_length, crcTable_getElem?⟩
  rw [crcTable_getElem?, ← crcFold_eq_crcFold_zero]

/-- Settles O5: an injection of the 256 bytes into themselves is a bijection. -/
theorem crcFoldBijective : Obligations.CrcFoldBijective :=
  ⟨Finite.injective_iff_bijective.mp (crcFold_injective_data 0x00), fun a p => crcOver_injective_byte a p []⟩

/-- Settles O6: a fold leaves 0 exactly where it folds a byte into itself. -/
theorem crcResidue : Obligations.CrcResidue := by
  intro a p c
  rw [crcOver_append_singleton, crcFold_eq_zero]

/-- Settles O7, from the injectivity of the checksum in the address and in each byte. -/
theorem crcZeroLawAndSensitivity : Obligations.CrcZeroLawAndSensitivity := by
  refine ⟨fun a n => ?_, fun a a' p => (crcOver_injective_address p).ne, fun a p q b b' =>
    (crcOver_injective_byte a p q).ne⟩
  rw [← (crcOver_injective_address (List.replicate n 0x00)).eq_iff (a := a), crcOver_zero_replicate]

end Sys2Proof.Machine
end

section
/-!
PROOFS. The checksum commands (R98 to R100): the word of each, and what each leaves of an idle block.
-/

namespace Sys2Proof

/-- A command word as a number: each field at its place (R76). -/
theorem Fields.toNat_toWord (f : Fields) : f.toWord.toNat =
    f.immB.toNat <<< 24 ||| f.immA.toNat <<< 16 ||| f.reg.toNat <<< 8 ||| f.rsv.toNat <<< 6 |||
      f.w.toNat <<< 5 ||| f.s.toNat <<< 4 ||| f.op.toNat := by
  simp only [Fields.toWord, BitVec.toNat_append, Nat.shiftLeft_or_distrib, ← Nat.shiftLeft_add]

theorem encode_crcb (seed data : Byte) : encode (.crcb seed data) = data ++ seed ++ 0x0001#16 := by
  apply BitVec.eq_of_toNat_eq
  simp only [encode, Fields.toNat_toWord, BitVec.toNat_append, Instr.fields, Fields.bare]
  simp [Nat.shiftLeft_or_distrib, ← Nat.shiftLeft_add]

theorem encode_crca (reg : Byte) : encode (.crca reg) = 0x0000#16 ++ reg ++ 0x02#8 := by
  apply BitVec.eq_of_toNat_eq
  simp only [encode, Fields.toNat_toWord, BitVec.toNat_append, Instr.fields, Fields.bare]
  simp

theorem encode_crcd (data : Byte) : encode (.crcd data) = 0x00#8 ++ data ++ 0x0003#16 := by
  apply BitVec.eq_of_toNat_eq
  simp only [encode, Fields.toNat_toWord, BitVec.toNat_append, Instr.fields, Fields.bare]
  simp

end Sys2Proof

namespace Sys2Proof.Machine

/-- Settles O20: the command completes with the fold and leaves `ACC` alone. -/
theorem crcbResult : Obligations.CrcbResult :=
  ⟨fun seed data => decode_eq_ok_iff_encode.mpr (encode_crcb seed data), fun _ _ _ hidle => accept_idle _ hidle⟩

/-- Settles O21: the command folds the address into 0, whatever `ACC` held. -/
theorem crcaResult : Obligations.CrcaResult :=
  ⟨fun reg => decode_eq_ok_iff_encode.mpr (encode_crca reg), fun _ _ hidle => accept_idle _ hidle⟩

/-- Settles O22: acceptance keeps `ACC`, and the command folds its byte into it. -/
theorem crcdResult : Obligations.CrcdResult :=
  ⟨fun data => decode_eq_ok_iff_encode.mpr (encode_crcd data), fun _ data hidle =>
    accept_idle (fun t => t.streamTo (crcFold t.acc data)) hidle⟩

end Sys2Proof.Machine
end

section
/-!
PROOFS. The value codec (R101 to R105, R109, R110). A payload of a width and a pattern of its bits determine each
other, and so do the pattern and a value in the range; encode and decode go from one end to the other.
-/

namespace Sys2Proof.Machine

/-! ### Two's-complement patterns -/

/-- The bits of a payload. -/
def payloadBits (w : Width) : Nat := 8 * payloadBytes w

theorem ofInt_readPattern {k : Nat} (sg : Signedness) (b : BitVec k) : BitVec.ofInt k (readPattern sg b) = b := by
  cases sg with
  | unsigned => simp [readPattern]
  | signed => exact BitVec.ofInt_toInt

/-- The range of R101 is what the patterns of the width read as. -/
theorem readPattern_mem_range {w : Width} (sg : Signedness) (b : BitVec (payloadBits w)) :
    minValue w sg ≤ readPattern sg b ∧ readPattern sg b ≤ maxValue w sg := by
  cases sg with
  | unsigned =>
    have hlt := b.isLt
    cases w <;> simp only [payloadBits, payloadBytes, minValue, maxValue, readPattern] at hlt ⊢ <;> omega
  | signed =>
    have hle := b.le_two_mul_toInt
    have hlt := b.two_mul_toInt_lt
    cases w <;> simp only [payloadBits, payloadBytes, minValue, maxValue, readPattern] at hle hlt ⊢ <;> omega

theorem natCast_toNat_ofInt (k : Nat) (v : Int) : ((BitVec.ofInt k v).toNat : Int) = v % 2 ^ k := by
  rw [BitVec.toNat_ofInt, Int.toNat_of_nonneg (Int.emod_nonneg _ (by positivity))]
  norm_cast

theorem readPattern_ofInt {w : Width} {sg : Signedness} {v : Int} (h : minValue w sg ≤ v ∧ v ≤ maxValue w sg) :
    readPattern sg (BitVec.ofInt (payloadBits w) v) = v := by
  obtain ⟨hmin, hmax⟩ := h
  cases sg with
  | unsigned =>
    rw [readPattern, natCast_toNat_ofInt]
    cases w <;> exact Int.emod_eq_of_lt hmin (Int.lt_of_le_of_lt hmax (by decide))
  | signed =>
    rw [readPattern]
    cases w <;> exact BitVec.toInt_ofInt_eq_self (by decide) hmin (Int.lt_of_le_of_lt hmax (by decide))

/-! ### Payloads and patterns -/

/-- A byte below a pattern, in integers. -/
theorem toNat_append_byte {k : Nat} (b : BitVec k) (b0 : Byte) : (b ++ b0).toNat = b0.toNat + 256 * b.toNat := by
  rw [BitVec.toNat_append, ← Nat.shiftLeft_add_eq_or_of_lt b0.isLt, Nat.shiftLeft_eq]
  omega

/-- A pattern of 16 bits is its two bytes, the high one above. -/
theorem high_append_low (b : BitVec 16) : b.extractLsb' 8 8 ++ b.extractLsb' 0 8 = b := by
  rw [BitVec.extractLsb'_append_extractLsb'_eq_extractLsb' (by rfl), BitVec.extractLsb'_eq_self]

/-- The bytes of a pattern, little-endian (R52). -/
def patternBytes : (w : Width) → BitVec (payloadBits w) → List Byte
  | .w8, b => [b]
  | .w16, b => [b.extractLsb' 0 8, b.extractLsb' 8 8]

theorem wireBytes_eq_patternBytes (w : Width) (v : Int) :
    wireBytes w v = patternBytes w (BitVec.ofInt (payloadBits w) v) := by
  cases w <;> rfl

theorem patternBytes_length {w : Width} (b : BitVec (payloadBits w)) : (patternBytes w b).length = payloadBytes w := by
  cases w <;> rfl

theorem exists_patternBytes {w : Width} {p : List Byte} (h : p.length = payloadBytes w) :
    ∃ b, p = patternBytes w b := by
  cases w with
  | w8 =>
    obtain ⟨b0, rfl⟩ := List.length_eq_one_iff.mp h
    exact ⟨b0, rfl⟩
  | w16 =>
    obtain ⟨b0, b1, rfl⟩ := List.length_eq_two.mp h
    exact ⟨b1 ++ b0, congrArg₂ (fun c0 c1 => [c0, c1]) BitVec.extractLsb'_append_eq_right.symm
      BitVec.extractLsb'_append_eq_left.symm⟩

theorem decodeValue_patternBytes {w : Width} (sg : Signedness) (b : BitVec (payloadBits w)) :
    decodeValue w sg (patternBytes w b) = some (readPattern sg b) := by
  cases w with
  | w8 => rfl
  | w16 => exact congrArg (fun x => some (readPattern sg x)) (high_append_low b)

/-! ### Encode and decode -/

theorem encodeValue_eq_some {w : Width} {sg : Signedness} {v : Int} {p : List Byte} :
    encodeValue w sg v = some p ↔ (minValue w sg ≤ v ∧ v ≤ maxValue w sg) ∧ wireBytes w v = p := by
  simp [encodeValue]

theorem encodeValue_eq_none {w : Width} {sg : Signedness} {v : Int} :
    encodeValue w sg v = none ↔ ¬(minValue w sg ≤ v ∧ v ≤ maxValue w sg) := by
  simp [encodeValue]

theorem decodeValue_of_encodeValue {w : Width} {sg : Signedness} {v : Int} {p : List Byte}
    (h : encodeValue w sg v = some p) : p.length = payloadBytes w ∧ decodeValue w sg p = some v := by
  obtain ⟨hrange, rfl⟩ := encodeValue_eq_some.mp h
  rw [wireBytes_eq_patternBytes]
  exact ⟨patternBytes_length _, by rw [decodeValue_patternBytes, readPattern_ofInt hrange]⟩

theorem encodeValue_of_decodeValue {w : Width} {sg : Signedness} {v : Int} {p : List Byte}
    (h : p.length = payloadBytes w) (hv : decodeValue w sg p = some v) : encodeValue w sg v = some p := by
  obtain ⟨b, rfl⟩ := exists_patternBytes h
  rw [decodeValue_patternBytes] at hv
  cases hv
  exact encodeValue_eq_some.mpr
    ⟨readPattern_mem_range sg b, by rw [wireBytes_eq_patternBytes, ofInt_readPattern]⟩

/-! ### The statements -/

/-- Settles O10: each of the two maps is undone by the other. -/
theorem codecRoundTrip : Obligations.CodecRoundTrip := by
  refine ⟨fun w sg v p => decodeValue_of_encodeValue, fun w sg p h => ?_⟩
  obtain ⟨v, hv⟩ := (decode_of_length sg h).1
  exact ⟨v, hv, encodeValue_of_decodeValue h hv⟩

/-- Settles O11: a payload that decodes to the value is its encoding, of which there is one. -/
theorem verifyByValueIsVerifyByBytes : Obligations.VerifyByValueIsVerifyByBytes := by
  intro w sg v e q he hq
  constructor
  · intro hv
    exact Option.some.inj ((encodeValue_of_decodeValue hq hv).symm.trans he)
  · rintro rfl
    exact (decodeValue_of_encodeValue he).2

/-- Settles O8: a pattern cut to `k` bits is its value modulo `2 ^ k`, and a word of two bytes is their number. -/
theorem encodeRangeAndBytes : Obligations.EncodeRangeAndBytes := by
  refine ⟨fun _ => encodeValue_eq_none, fun _ => encodeValue_eq_none, fun _ => encodeValue_eq_none,
    fun _ => encodeValue_eq_none, fun sg v p h => ?_, fun sg v p h => ?_⟩
  · obtain ⟨-, rfl⟩ := encodeValue_eq_some.mp h
    exact ⟨_, rfl, natCast_toNat_ofInt 8 v⟩
  · obtain ⟨-, rfl⟩ := encodeValue_eq_some.mp h
    refine ⟨_, _, rfl, ?_⟩
    have hvalue := natCast_toNat_ofInt 16 v
    rw [← high_append_low (BitVec.ofInt 16 v), toNat_append_byte] at hvalue
    exact_mod_cast hvalue

/-- 24 bits fit in a host word, so the uptime counter is not cut (R105). -/
theorem uptimeWord_toNat (b0 b1 b2 : Byte) :
    (uptimeWord b0 b1 b2).toNat = b0.toNat + 256 * b1.toNat + 65536 * b2.toNat := by
  rw [uptimeWord, decodeUptime, BitVec.toNat_ofNat, Nat.mod_eq_of_lt]
  omega

/-- Settles O9, in integers: a pattern with its top bit set reads as its number less `2 ^ k`. -/
theorem decodeValues : Obligations.DecodeValues := by
  refine ⟨fun b => rfl, fun b => ?_, fun b0 b1 => ?_, fun b0 b1 => ?_, fun b0 b1 b2 => ?_⟩
  · rw [decodeValue, readPattern, BitVec.toInt_eq_toNat_cond]
    congr 1
    split_ifs <;> omega
  · rw [decodeValue, readPattern, toNat_append_byte]
    norm_cast
  · rw [decodeValue, readPattern, BitVec.toInt_eq_toNat_cond, toNat_append_byte]
    congr 1
    split_ifs <;> omega
  · refine ⟨uptimeWord_toNat b0 b1 b2, ?_⟩
    rw [uptimeWord_toNat]
    omega

end Sys2Proof.Machine
end

section
/-!
PROOFS. The codec commands (R111 to R119): the word of each, and what each leaves of an idle block. Both directions
show in `RESULT` as bits of `OPND`.
-/

namespace Sys2Proof.Machine

/-! ### Encode commands -/

/-- Each wire byte goes below those that follow it (R55). -/
theorem placeBytes_cons {k : Nat} {b : BitVec k} {rest : List Byte} (b0 : Byte)
    (h : placeBytes rest = b.setWidth 32) : placeBytes (b0 :: rest) = (b ++ b0).setWidth 32 := by
  rw [placeBytes, h]
  ext i hi
  simp only [BitVec.getElem_or, BitVec.getElem_setWidth, BitVec.getElem_shiftLeft, BitVec.getLsbD_append]
  grind

theorem placeBytes_singleton (b : Byte) : placeBytes [b] = b.setWidth 32 := by
  simp [placeBytes]

theorem placeBytes_patternBytes {w : Width} (b : BitVec (payloadBits w)) :
    placeBytes (patternBytes w b) = b.setWidth 32 := by
  cases w with
  | w8 => exact placeBytes_singleton b
  | w16 =>
    rw [patternBytes, placeBytes_cons _ (placeBytes_singleton _)]
    exact congrArg (BitVec.setWidth 32) (high_append_low b)

theorem placeBytes_wireBytes_toInt (w : Width) (x : Word) :
    placeBytes (wireBytes w x.toInt) = (x.extractLsb' 0 (payloadBits w)).setWidth 32 := by
  have hle : payloadBits w ≤ 32 := by cases w <;> decide
  rw [wireBytes_eq_patternBytes, placeBytes_patternBytes, ← BitVec.setWidth_eq_extractLsb' hle,
    ← BitVec.signExtend_eq_setWidth_of_le x hle, BitVec.signExtend]

/-- An encode command on an idle block: the range check of R101 on `OPND`, then the low bits of `OPND`. -/
theorem accept_encodeOpnd {s : State} (w : Width) (sg : Signedness) (h : s.busy = false) :
    s.accept (State.encodeOpnd w sg) = .next
      (if minValue w sg ≤ s.opnd.toInt ∧ s.opnd.toInt ≤ maxValue w sg
        then s.completedAs .ok ((s.opnd.extractLsb' 0 (payloadBits w)).setWidth 32) true
        else s.completedAs .encErr 0 false) := by
  rw [accept_idle _ h, State.encodeOpnd, State.opndValue, State.cleared_opnd]
  split_ifs with hrange
  · rw [encodeValue_eq_some.mpr ⟨hrange, rfl⟩, ← placeBytes_wireBytes_toInt]
    rfl
  · rw [encodeValue_eq_none.mpr hrange]
    rfl

/-- Settles O24: each command is the shared encode at 8 bits, its range written out. -/
theorem encodeCommands8 : Obligations.EncodeCommands8 :=
  ⟨decode_encode .enc8u, decode_encode .enc8s, fun _ hidle =>
    ⟨accept_encodeOpnd .w8 .unsigned hidle, accept_encodeOpnd .w8 .signed hidle⟩⟩

/-- Settles O25: each command is the shared encode at 16 bits, its range written out. -/
theorem encodeCommands16 : Obligations.EncodeCommands16 :=
  ⟨decode_encode .enc16u, decode_encode .enc16s, fun _ hidle =>
    ⟨accept_encodeOpnd .w16 .unsigned hidle, accept_encodeOpnd .w16 .signed hidle⟩⟩

/-! ### Decode commands -/

/-- The uptime counter is the 24-bit pattern of its three bytes, zero-extended (R119). -/
theorem uptimeWord_eq_setWidth (b0 b1 b2 : Byte) : uptimeWord b0 b1 b2 = (b2 ++ b1 ++ b0).setWidth 32 := by
  apply BitVec.eq_of_toNat_eq
  rw [uptimeWord_toNat, BitVec.toNat_setWidth, Nat.mod_eq_of_lt (by omega), toNat_append_byte, toNat_append_byte]
  omega

/-- Wire bytes of `OPND`, high byte first, are its low bits (R80). -/
theorem State.opndByte_append (s : State) : s.opndByte 1 ++ s.opndByte 0 = s.opnd.extractLsb' 0 16 :=
  BitVec.extractLsb'_append_extractLsb'_eq_extractLsb' rfl

theorem State.opndByte_append_append (s : State) :
    s.opndByte 2 ++ s.opndByte 1 ++ s.opndByte 0 = s.opnd.extractLsb' 0 24 := by
  rw [State.opndByte, State.opndByte, State.opndByte,
    BitVec.extractLsb'_append_extractLsb'_eq_extractLsb' (by rfl)]
  exact BitVec.extractLsb'_append_extractLsb'_eq_extractLsb' rfl

/-- Settles O26: the wire bytes that a command decodes are the low bits of `OPND`. -/
theorem decodeCommands : Obligations.DecodeCommands := by
  refine ⟨decode_encode .dec8u, decode_encode .dec8s, decode_encode .dec16u, decode_encode .dec16s,
    decode_encode .dec24u, fun s hidle => ⟨accept_idle _ hidle, accept_idle _ hidle, ?_, ?_, ?_⟩⟩
  · rw [← s.opndByte_append]
    exact accept_idle _ hidle
  · rw [← s.opndByte_append]
    exact accept_idle _ hidle
  · rw [← s.opndByte_append_append, ← uptimeWord_eq_setWidth]
    exact accept_idle _ hidle

end Sys2Proof.Machine
end

section
/-!
PROOFS. The Sequencer's steps, one equation per state and answer (R131 to R141). What follows reads a step from these
and does not unfold it.
-/

namespace Sys2Proof.Machine

open Sys2Proof.Config (Draw)

/-! ### The primitives, by their answer -/

section
variable {s t : State} {d : Draw} (h : s.draw = (d, t))
include h

theorem history_of_draw : t.history = s.history := by
  simpa [h] using s.draw_history

theorem tOpen_of_draw :
    s.tOpen = (drawOk d, { t with history := s.history ++ [.opened s.cfg.busId (drawOk d)] }) := by
  simp [State.tOpen, State.record, h, history_of_draw h]

theorem tWriteBlock_of_draw (reg : Byte) (bytes : List Byte) :
    s.tWriteBlock reg bytes =
      (drawOk d, { t with history := s.history ++ [.write s.cfg.devAddr reg bytes (drawOk d)] }) := by
  simp [State.tWriteBlock, State.record, h, history_of_draw h]

theorem tReadBlock_of_draw (reg : Byte) (n : Nat) :
    s.tReadBlock reg n =
      (drawBytes d, { t with history := s.history ++ [.read s.cfg.devAddr reg n (drawBytes d)] }) := by
  simp [State.tReadBlock, State.record, h, history_of_draw h]

theorem tN_of_draw : t.tN = s.tN := by
  simpa [h] using s.draw_tN

end

/-! ### Open -/

theorem sequencerStep_wOpen_ok {s t : State} {bytes : List Byte} (hq : s.seqState = .wOpen)
    (h : s.draw = (.ok bytes, t)) :
    sequencerStep s = .next { t with
      history := s.history ++ [.opened s.cfg.busId true], session := true, seqState := .wWait } := by
  simp [sequencerStep, hq, stepWOpen, tOpen_of_draw h, drawOk]

theorem sequencerStep_wOpen_err {s t : State} (hq : s.seqState = .wOpen) (h : s.draw = (.err, t)) :
    sequencerStep s = .next (State.writeAttemptEnd { t with
      history := s.history ++ [.opened s.cfg.busId false], lastErr := .transport }) := by
  simp [sequencerStep, hq, stepWOpen, tOpen_of_draw h, drawOk]

theorem sequencerStep_rOpen_ok {s t : State} {bytes : List Byte} (hq : s.seqState = .rOpen)
    (h : s.draw = (.ok bytes, t)) :
    sequencerStep s = .next { t with
      history := s.history ++ [.opened s.cfg.busId true], session := true, seqState := .rWait } := by
  simp [sequencerStep, hq, stepROpen, tOpen_of_draw h, drawOk]

theorem sequencerStep_rOpen_err {s t : State} (hq : s.seqState = .rOpen) (h : s.draw = (.err, t)) :
    sequencerStep s = .next (State.readAttemptEnd { t with
      history := s.history ++ [.opened s.cfg.busId false], lastErr := .transport }) := by
  simp [sequencerStep, hq, stepROpen, tOpen_of_draw h, drawOk]

/-- Settles O33, by the state and the answer. -/
theorem openSteps : Obligations.OpenSteps := by
  intro s t d h
  refine ⟨?_, ?_, ?_, ?_⟩
  · rintro hq bytes rfl
    exact sequencerStep_wOpen_ok hq h
  · rintro hq rfl
    exact sequencerStep_wOpen_err hq h
  · rintro hq bytes rfl
    exact sequencerStep_rOpen_ok hq h
  · rintro hq rfl
    exact sequencerStep_rOpen_err hq h

/-! ### Wait -/

theorem sequencerStep_wWait {s : State} (hq : s.seqState = .wWait) :
    sequencerStep s =
      .next { s with history := s.history ++ [.wait s.cfg.delay], seqState := .wXfer } := by
  simp only [sequencerStep, hq]
  rfl

theorem sequencerStep_rWait {s : State} (hq : s.seqState = .rWait) :
    sequencerStep s =
      .next { s with history := s.history ++ [.wait s.cfg.delay], seqState := .rXfer } := by
  simp only [sequencerStep, hq]
  rfl

/-- Settles O34: a wait adds its event and moves on. -/
theorem waitSteps : Obligations.WaitSteps := fun _ => ⟨sequencerStep_wWait, sequencerStep_rWait⟩

/-! ### Transfer -/

theorem sequencerStep_wXfer {s t : State} {d : Draw} (hq : s.seqState = .wXfer) (h : s.draw = (d, t)) :
    sequencerStep s = .next { t with
      history := s.history ++ [.write s.cfg.devAddr s.tReg s.tTx (drawOk d)], tXok := drawOk d,
      seqState := .wClose } := by
  simp [sequencerStep, hq, stepWXfer, tWriteBlock_of_draw h]

theorem takeAnswer_good {s : State} {bytes : List Byte} (h : bytes.length = s.tN + 1) :
    s.takeAnswer (some bytes) = { s with rxbuf := bytes, tXok := true } :=
  if_pos h

theorem takeAnswer_bad {s : State} {bytes : List Byte} (h : bytes.length ≠ s.tN + 1) :
    s.takeAnswer (some bytes) = { s with tXok := false } :=
  if_neg h

section
variable {s t : State} (hq : s.seqState = .rXfer)
include hq

theorem sequencerStep_rXfer_good {bytes : List Byte} (h : s.draw = (.ok bytes, t))
    (hlen : bytes.length = s.tN + 1) :
    sequencerStep s = .next { t with
      history := s.history ++ [.read s.cfg.devAddr s.tReg (s.tN + 1) (some bytes)],
      rxbuf := bytes, tXok := true, seqState := .rClose } := by
  rw [← tN_of_draw h] at hlen
  simp [sequencerStep, hq, stepRXfer, tReadBlock_of_draw h, drawBytes, takeAnswer_good, hlen]

theorem sequencerStep_rXfer_bad {bytes : List Byte} (h : s.draw = (.ok bytes, t))
    (hlen : bytes.length ≠ s.tN + 1) :
    sequencerStep s = .next { t with
      history := s.history ++ [.read s.cfg.devAddr s.tReg (s.tN + 1) (some bytes)],
      tXok := false, seqState := .rClose } := by
  rw [← tN_of_draw h] at hlen
  simp [sequencerStep, hq, stepRXfer, tReadBlock_of_draw h, drawBytes, takeAnswer_bad, hlen]

theorem sequencerStep_rXfer_err (h : s.draw = (.err, t)) :
    sequencerStep s = .next { t with
      history := s.history ++ [.read s.cfg.devAddr s.tReg (s.tN + 1) none],
      tXok := false, seqState := .rClose } := by
  simp [sequencerStep, hq, stepRXfer, tReadBlock_of_draw h, drawBytes, State.takeAnswer]

end

/-- Settles O35, by the answer: a write looks at success alone, a read at the length as well. -/
theorem transferSteps : Obligations.TransferSteps := by
  intro s t d h
  refine ⟨?_, ?_, ?_, ?_, ?_⟩
  · rintro hq bytes rfl
    exact sequencerStep_wXfer hq h
  · rintro hq rfl
    exact sequencerStep_wXfer hq h
  · rintro hq bytes rfl hlen
    exact sequencerStep_rXfer_good hq h hlen
  · rintro hq bytes rfl hlen
    exact sequencerStep_rXfer_bad hq h hlen
  · rintro hq rfl
    exact sequencerStep_rXfer_err hq h

/-! ### Close -/

theorem sequencerStep_wClose_ok {s : State} (hq : s.seqState = .wClose) (hok : s.tXok = true) :
    sequencerStep s = .next { s.tClose with nested := true, ratt := 1, seqState := .rOpen } := by
  simp [sequencerStep, hq, stepWClose, hok]

theorem sequencerStep_wClose_err {s : State} (hq : s.seqState = .wClose) (hok : s.tXok = false) :
    sequencerStep s = .next (State.writeAttemptEnd { s.tClose with lastErr := .transport }) := by
  simp [sequencerStep, hq, stepWClose, hok]

/-- Settles O36: a good transfer is read back, a failed one ends the attempt. -/
theorem writeCloseStep : Obligations.WriteCloseStep := fun _ hq =>
  ⟨sequencerStep_wClose_ok hq, sequencerStep_wClose_err hq⟩

theorem sequencerStep_rClose_err {s : State} (hq : s.seqState = .rClose) (hok : s.tXok = false) :
    sequencerStep s = .next (State.readAttemptEnd { s.tClose with lastErr := .transport }) := by
  simp [sequencerStep, hq, stepRClose, hok]

section
variable {s : State} {p : List Byte} {c : Byte} (hq : s.seqState = .rClose) (hok : s.tXok = true)
  (hsplit : splitFrame s.tN s.rxbuf = some (p, c))
include hq hok hsplit

theorem sequencerStep_rClose_accepted (hcrc : crcOver s.tReg p = c) :
    sequencerStep s = s.tClose.readSucceeded p := by
  simp [sequencerStep, hq, stepRClose, hok, State.checkFrame, hsplit, hcrc]

theorem sequencerStep_rClose_mismatch (hcrc : crcOver s.tReg p ≠ c) :
    sequencerStep s = .next (State.readAttemptEnd { s.tClose with lastErr := .checksum }) := by
  simp [sequencerStep, hq, stepRClose, hok, State.checkFrame, hsplit, hcrc]

end

theorem readSucceeded_top {s : State} {p : List Byte} {r : Word} (hn : s.nested = false)
    (hr : readValue s.tOp s.tW s.tS s.cfg.versionLayout p = some r) :
    s.readSucceeded p = .next (s.completeTransaction .ok r true) := by
  simp [State.readSucceeded, hn, hr]

/-- Settles O37: a failed transfer, then a wrong checksum, then the value of the read. -/
theorem readCloseStep : Obligations.ReadCloseStep := by
  intro s hq
  refine ⟨sequencerStep_rClose_err hq, fun p c hok hrx hlen => ?_⟩
  have hsplit : splitFrame s.tN s.rxbuf = some (p, c) := splitFrame_eq_some.mpr ⟨hrx, hlen⟩
  refine ⟨sequencerStep_rClose_mismatch hq hok hsplit, fun hcrc hn r hr => ?_⟩
  rw [sequencerStep_rClose_accepted hq hok hsplit hcrc]
  exact readSucceeded_top hn hr

theorem readSucceeded_verified {s : State} {p : List Byte} (hn : s.nested = true)
    (hv : decodeValue s.tW s.tS p = some s.tVal) :
    s.readSucceeded p = .next (s.completeTransaction .ok 0 false) := by
  simp [State.readSucceeded, hn, State.writeVerify, hv]

theorem readSucceeded_differs {s : State} {p : List Byte} {v : Int} (hn : s.nested = true)
    (hv : decodeValue s.tW s.tS p = some v) (hne : v ≠ s.tVal) :
    s.readSucceeded p =
      .next (State.writeAttemptEnd { s with lastErr := .verify, nested := false, ratt := 0 }) := by
  simp [State.readSucceeded, hn, State.writeVerify, hv, hne]

/-- Settles O38: the read-back ends the write by comparing values. -/
theorem writeVerifyStep : Obligations.WriteVerifyStep := by
  intro s p c v hq hok hrx hlen hcrc hn hv
  rw [sequencerStep_rClose_accepted hq hok (splitFrame_eq_some.mpr ⟨hrx, hlen⟩) hcrc]
  refine ⟨?_, readSucceeded_differs (s := s.tClose) hn hv⟩
  rintro rfl
  exact readSucceeded_verified (s := s.tClose) hn hv

/-- Settles O39: by the budget left, and for the read loop by whether it is nested. -/
theorem attemptEnds : Obligations.AttemptEnds := by
  refine fun s => ⟨writeAttemptEnd_again, writeAttemptEnd_last, fun again hn => ?_, fun again hn => ?_,
    fun last hn => ?_, fun last hn => ?_⟩
  · simp [readAttemptEnd_again again, hn]
  · simp [readAttemptEnd_again again, hn]
  · rw [readAttemptEnd_last last, readFailed_top hn]
    rfl
  · rw [readAttemptEnd_last last, readFailed_nested hn]

end Sys2Proof.Machine
end

section
/-!
PROOFS. The step that presents a command, and the accepting step of each transaction command (R128 to R130, R152 to
R161).
-/

namespace Sys2Proof.Machine

/-! ### Presenting a command -/

theorem step_write_cmd {s : State} {rest : List Move} {w : Word} {i : Instr}
    (hs : s.schedule = .host (.write 32 0x00 w) :: rest) (hd : decode w = .ok i) :
    step s = exec i { s with schedule := rest } := by
  rw [step_of_cons hs]
  exact presentCommand_ok hd _

/-- Settles O17: a write to `CMD` presents its word, and `withFetchWord` puts such a write next. -/
theorem stepRunsDecoded : Obligations.StepRunsDecoded := by
  refine ⟨fun s rest w i => step_write_cmd, fun s w i hd => ?_⟩
  have hword : BitVec.ofNat 32 (w.toNat % 2 ^ 32) = w := by
    rw [w.toNat_mod_cancel, BitVec.ofNat_toNat, BitVec.setWidth_eq]
  exact step_write_cmd (s := s.withFetchWord 32 w.toNat) (rest := s.schedule) rfl (by rwa [hword])

/-- Settles O18: a command, like any word presented, is an acceptance, and a busy block rejects it. -/
theorem busyRejectsEveryCommand : Obligations.BusyRejectsEveryCommand := by
  refine fun s hbusy => ⟨fun i => ?_, fun w => ?_⟩
  · obtain ⟨body, hbody⟩ := exec_is_accept i
    exact (hbody s).trans (accept_busy body hbusy)
  · obtain ⟨body, hbody⟩ := presentCommand_is_accept w
    exact (hbody s).trans (accept_busy body hbusy)

/-! ### Reads -/

theorem exec_readCommand (w : Width) (sg : Signedness) (reg : Byte) (s : State) :
    exec (readCommand w sg reg) s = s.accept (State.startRead w sg reg) := by
  cases w <;> cases sg <;> rfl

/-- Settles O30: the accepted command starts the read of its descriptor. -/
theorem readStarts : Obligations.ReadStarts := fun s reg w sg hidle =>
  (exec_readCommand w sg reg s).trans (accept_idle _ hidle)

/-- Settles O31: the accepted command starts the read of its kind. -/
theorem specialReadsStart : Obligations.SpecialReadsStart := fun _ _ hidle =>
  ⟨accept_idle _ hidle, accept_idle _ hidle⟩

/-! ### Writes -/

theorem exec_writeCommand (w : Width) (sg : Signedness) (reg : Byte) (s : State) :
    exec (writeCommand w sg reg) s = s.accept (State.startWrite w sg reg) := by
  cases w <;> cases sg <;> rfl

/-- `s` after an accepted write whose value has the wire bytes `e` (R129). -/
def State.writeStarted (s : State) (w : Width) (sg : Signedness) (reg : Byte) (e : List Byte) : State :=
  { s with
    ovr := false, code := .none, valid := false, lastErr := .none, result := 0, attempts := 1,
    tOp := .wr, tReg := reg, tW := w, tS := sg, tVal := s.opnd.toInt, tTx := e ++ [crcOver reg e],
    tN := payloadBytes w, att := 1, ratt := 0, nested := false, seqState := .wOpen }

section
variable {s : State} {w : Width} {sg : Signedness} (reg : Byte) (hidle : s.busy = false)
include hidle

theorem exec_writeCommand_encodes {e : List Byte} (he : encodeValue w sg s.opnd.toInt = some e) :
    exec (writeCommand w sg reg) s = .next (s.writeStarted w sg reg e) := by
  rw [exec_writeCommand, accept_idle _ hidle, State.startWrite, State.opndValue, State.cleared_opnd, he]
  rfl

theorem exec_writeCommand_out_of_range (he : encodeValue w sg s.opnd.toInt = none) :
    exec (writeCommand w sg reg) s = .next (s.completedAs .encErr 0 false) := by
  rw [exec_writeCommand, accept_idle _ hidle, State.startWrite, State.opndValue, State.cleared_opnd, he]
  rfl

/-- A write that raises BUSY is one whose value encodes. -/
theorem exec_writeCommand_busy {t : State} (h : exec (writeCommand w sg reg) s = .next t)
    (hbusy : t.busy = true) :
    ∃ e, encodeValue w sg s.opnd.toInt = some e ∧ t = s.writeStarted w sg reg e := by
  cases he : encodeValue w sg s.opnd.toInt with
  | none =>
    rw [exec_writeCommand_out_of_range reg hidle he] at h
    cases h
    cases hbusy
  | some e =>
    rw [exec_writeCommand_encodes reg hidle he] at h
    cases h
    exact ⟨e, rfl, rfl⟩

end

/-- Settles O27, by whether the value encodes. -/
theorem writeStarts : Obligations.WriteStarts := by
  intro s reg w sg hidle
  cases he : encodeValue w sg s.opnd.toInt with
  | none => exact exec_writeCommand_out_of_range reg hidle he
  | some e => exact exec_writeCommand_encodes reg hidle he

/-- Settles O29: a value outside the range of R101 does not encode. -/
theorem writeOutOfRange : Obligations.WriteOutOfRange := fun _ reg hidle =>
  ⟨fun h => exec_writeCommand_out_of_range (w := .w8) (sg := .unsigned) reg hidle (encodeValue_eq_none.mpr h),
    fun h => exec_writeCommand_out_of_range (w := .w8) (sg := .signed) reg hidle (encodeValue_eq_none.mpr h),
    fun h => exec_writeCommand_out_of_range (w := .w16) (sg := .unsigned) reg hidle (encodeValue_eq_none.mpr h),
    fun h => exec_writeCommand_out_of_range (w := .w16) (sg := .signed) reg hidle (encodeValue_eq_none.mpr h)⟩

/-! ### The frame of a write -/

/-- The two's-complement pattern of a word's value, cut to a width, is the word's low bits. -/
theorem ofInt_toInt {k : Nat} (x : Word) (hk : k ≤ 32) : BitVec.ofInt k x.toInt = x.extractLsb' 0 k := by
  rw [← BitVec.setWidth_eq_extractLsb' hk, ← BitVec.signExtend_eq_setWidth_of_le x hk, BitVec.signExtend]

theorem wireBytes_w8_toInt (x : Word) : wireBytes .w8 x.toInt = [x.extractLsb' 0 8] := by
  rw [wireBytes, ofInt_toInt x (by decide)]

theorem extractLsb'_low_half (x : Word) {i : Nat} (h : i + 8 ≤ 16) :
    (x.extractLsb' 0 16).extractLsb' i 8 = x.extractLsb' i 8 := by
  ext k hk
  simp only [BitVec.getElem_extractLsb', BitVec.getLsbD_extractLsb']
  simp [show i + k < 16 by omega]

theorem wireBytes_w16_toInt (x : Word) :
    wireBytes .w16 x.toInt = [x.extractLsb' 0 8, x.extractLsb' 8 8] := by
  rw [wireBytes, ofInt_toInt x (by decide), extractLsb'_low_half x (by decide), extractLsb'_low_half x (by decide)]

/-- A write that starts has latched the wire bytes of `OPND` and their checksum (R72). -/
theorem exec_writeCommand_frame {s t : State} {w : Width} {sg : Signedness} {reg : Byte}
    (hidle : s.busy = false) (h : exec (writeCommand w sg reg) s = .next t) (hbusy : t.busy = true) :
    t.tTx = wireBytes w s.opnd.toInt ++ [crcOver reg (wireBytes w s.opnd.toInt)] := by
  obtain ⟨e, he, rfl⟩ := exec_writeCommand_busy reg hidle h hbusy
  rw [(encodeValue_eq_some.mp he).2]
  rfl

/-- Settles O28: the wire bytes of the value of `OPND` are its low bytes, whatever the signedness. -/
theorem writeFrameBytes : Obligations.WriteFrameBytes := by
  intro s t reg hidle
  have frame8 (sg : Signedness) (h : exec (writeCommand .w8 sg reg) s = .next t) (hbusy : t.busy = true) :
      t.tTx = [s.opnd.extractLsb' 0 8, crcOver reg [s.opnd.extractLsb' 0 8]] := by
    simpa [wireBytes_w8_toInt] using exec_writeCommand_frame hidle h hbusy
  have frame16 (sg : Signedness) (h : exec (writeCommand .w16 sg reg) s = .next t) (hbusy : t.busy = true) :
      t.tTx = [s.opnd.extractLsb' 0 8, s.opnd.extractLsb' 8 8,
        crcOver reg [s.opnd.extractLsb' 0 8, s.opnd.extractLsb' 8 8]] := by
    simpa [wireBytes_w16_toInt] using exec_writeCommand_frame hidle h hbusy
  exact ⟨fun h => h.elim (frame8 .unsigned) (frame8 .signed), fun h => h.elim (frame16 .unsigned) (frame16 .signed)⟩

end Sys2Proof.Machine
end

section
/-!
PROOFS. The word that a successful read places in `RESULT` (R106, R107, R142).
-/

namespace Sys2Proof.Machine

theorem decodeWord_patternBytes {w : Width} (sg : Signedness) (b : BitVec (payloadBits w)) :
    decodeWord w sg (patternBytes w b) = some (extendPattern sg b) := by
  cases w with
  | w8 => rfl
  | w16 => exact congrArg (fun x => some (extendPattern sg x)) (high_append_low b)

theorem extendPattern_signed_toInt {k : Nat} (hk : k ≤ 32) (b : BitVec k) :
    (extendPattern .signed b).toInt = readPattern .signed b :=
  BitVec.toInt_signExtend_of_le hk

theorem extendPattern_unsigned_toNat {k : Nat} (hk : k ≤ 32) (b : BitVec k) :
    ((extendPattern .unsigned b).toNat : Int) = readPattern .unsigned b :=
  congrArg Nat.cast (BitVec.toNat_setWidth_of_le hk)

/-- `r`, read by the signedness of the descriptor, is the value `v` (R142). -/
def HoldsValue (sg : Signedness) (r : Word) (v : Int) : Prop :=
  (sg = .signed → r.toInt = v) ∧ (sg = .unsigned → (r.toNat : Int) = v)

/-- The word of a payload of the width holds its decoded value. -/
theorem decodeWord_holdsValue {w : Width} {sg : Signedness} {p : List Byte} (h : p.length = payloadBytes w) :
    ∃ v r, decodeValue w sg p = some v ∧ decodeWord w sg p = some r ∧ HoldsValue sg r v := by
  obtain ⟨b, rfl⟩ := exists_patternBytes h
  have hk : payloadBits w ≤ 32 := by cases w <;> decide
  refine ⟨_, _, decodeValue_patternBytes sg b, decodeWord_patternBytes sg b, ?_, ?_⟩
  · rintro rfl
    exact extendPattern_signed_toInt hk b
  · rintro rfl
    exact extendPattern_unsigned_toNat hk b

/-- The three bytes of a version triplet, in integers. -/
theorem versionWord_toNat (major minor patch : Byte) :
    (versionWord (major, minor, patch)).toNat = 65536 * major.toNat + 256 * minor.toNat + patch.toNat := by
  rw [versionWord, toNat_append_byte, toNat_append_byte, toNat_append_byte]
  simp only [BitVec.toNat_ofNat]
  omega

theorem getElem?_eq_payloadByte (p0 p1 p2 p3 : Byte) (i : Fin 4) :
    [p0, p1, p2, p3][i.val]? = some (payloadByte p0 p1 p2 p3 i) := by
  match i with
  | 0 | 1 | 2 | 3 => rfl

/-- Settles O12, for a read, a version read and an uptime read. -/
theorem readValuePlacement : Obligations.ReadValuePlacement := by
  refine ⟨fun w sg l p h => ?_, fun w sg l p h => ?_, fun w sg l p0 p1 p2 p3 => ?_⟩
  · obtain ⟨v, r, hv, hr, hsigned, hunsigned⟩ := decodeWord_holdsValue (sg := sg) h
    exact ⟨v, r, hv, hr, hsigned, hunsigned⟩
  · obtain ⟨p0, p1, p2, p3, rfl⟩ := List.length_eq_four.mp h
    exact ⟨_, _, _, _, rfl, getElem?_eq_payloadByte p0 p1 p2 p3 l.major, getElem?_eq_payloadByte p0 p1 p2 p3 l.minor,
      getElem?_eq_payloadByte p0 p1 p2 p3 l.patch, versionWord_toNat _ _ _⟩
  · exact ⟨_, rfl, uptimeWord_toNat p0 p1 p2⟩

end Sys2Proof.Machine
end

section
/-!
PROOFS. The read loop of the source (R120) beside the Sequencer: one attempt, then the loop, nested or not. A run of
the Sequencer is compared with a run of the loop by what it leaves on the bus: the events, the last sub-error, and the
answers not yet used.
-/

namespace Sys2Proof.Machine

open Sys2Proof.Config (Draw)

/-! ### Runs on the bus -/

/-- `u` is at the point of the transaction where `s` is, with the session closed, after a run on the bus that added
these events and left this last sub-error and these answers. -/
structure State.BusRun (s u : State) (events : List Event) (e : LastErr) (rest : Answers) : Prop where
  same : u.eraseBus = s.eraseBus
  session : u.session = false
  history : u.history = s.history ++ events
  lastErr : u.lastErr = e
  answers : u.answers = rest

section
variable {s u : State} {events : List Event} {e : LastErr} {rest : Answers} (h : s.BusRun u events e rest)
include h

theorem State.BusRun.cfg : u.cfg = s.cfg := (congrArg State.cfg h.same :)

theorem State.BusRun.schedule : u.schedule = s.schedule := (congrArg State.schedule h.same :)

theorem State.BusRun.nested : u.nested = s.nested := (congrArg State.nested h.same :)

theorem State.BusRun.tOp : u.tOp = s.tOp := (congrArg State.tOp h.same :)

theorem State.BusRun.tW : u.tW = s.tW := (congrArg State.tW h.same :)

theorem State.BusRun.tS : u.tS = s.tS := (congrArg State.tS h.same :)

theorem State.BusRun.tVal : u.tVal = s.tVal := (congrArg State.tVal h.same :)

theorem State.BusRun.tTx : u.tTx = s.tTx := (congrArg State.tTx h.same :)

theorem State.BusRun.tReg : u.tReg = s.tReg := (congrArg State.tReg h.same :)

theorem State.BusRun.tN : u.tN = s.tN := (congrArg State.tN h.same :)

end

/-- A run that starts where an earlier one has come to. -/
theorem State.BusRun.after {s t u : State} {before events : List Event} {e : LastErr} {rest : Answers}
    (h : t.BusRun u events e rest) (hsame : t.eraseBus = s.eraseBus) (hhistory : t.history = s.history ++ before) :
    s.BusRun u (before ++ events) e rest where
  same := h.same.trans hsame
  session := h.session
  history := by rw [h.history, hhistory, List.append_assoc]
  lastErr := h.lastErr
  answers := h.answers

theorem draw_of_take {s : State} {d : Draw} {a : Answers} (h : s.answers.take = (d, a)) :
    s.draw = (d, { s with draws := a.fixed, drawCount := a.count }) := by
  cases hd : s.draws with
  | nil =>
    simp only [State.answers, Answers.take, hd] at h
    cases h
    rw [draw_free hd, ← hd]
  | cons d' rest =>
    simp only [State.answers, Answers.take, hd] at h
    cases h
    exact draw_fixed hd

theorem runSteps_one_sequencer {s : State} {r : Result} (hs : s.schedule = []) (h : sequencerStep s = r) :
    runSteps 1 s = r :=
  (runSteps_one s).trans ((step_of_empty hs).trans h)

theorem runSteps_succ_sequencer {s t : State} (k : Nat) (hs : s.schedule = []) (h : sequencerStep s = .next t) :
    runSteps (k + 1) s = runSteps k t :=
  runSteps_succ k ((step_of_empty hs).trans h)

/-! ### The check of a frame -/

theorem judgeFrame_of_length_ne {reg : Byte} {n : Nat} {rx : List Byte} (h : rx.length ≠ n + 1) :
    judgeFrame reg n rx = .error .transport := by
  simp only [judgeFrame, splitFrame_eq_none.mpr h]

theorem judgeFrame_of_split {reg : Byte} {n : Nat} {rx p : List Byte} {c : Byte} (h : splitFrame n rx = some (p, c)) :
    judgeFrame reg n rx = if crcOver reg p = c then .ok p else .error .checksum := by
  simp only [judgeFrame, h]

theorem length_of_judgeFrame_ok {reg : Byte} {n : Nat} {rx p : List Byte} (h : judgeFrame reg n rx = .ok p) :
    p.length = n := by
  cases hsplit : splitFrame n rx with
  | none => simp [judgeFrame, hsplit] at h
  | some pc =>
    rw [judgeFrame_of_split hsplit] at h
    split at h <;> cases h
    exact (splitFrame_eq_some.mp hsplit).2

/-! ### One attempt of the read loop -/

/-- What one answer to a block read comes to (R138). -/
def judgeAnswer (reg : Byte) (n : Nat) : Draw → Except LastErr (List Byte)
  | .err => .error .transport
  | .ok rx => judgeFrame reg n rx

section
variable {h : Config.Handle} {reg : Byte} {n : Nat} {a a1 a2 : Answers}

theorem readAttempt_openFailed (h1 : a.take = (.err, a1)) :
    readAttempt h reg n a =
      { outcome := .error .transport, events := [.opened h.busId false], rest := a1 } := by
  simp only [readAttempt, h1]

theorem readAttempt_answered {bytes : List Byte} {d : Draw} (h1 : a.take = (.ok bytes, a1)) (h2 : a1.take = (d, a2)) :
    readAttempt h reg n a =
      { outcome := judgeAnswer reg n d
        events := [.opened h.busId true, .wait h.delay, .read h.devAddr reg (n + 1) (drawBytes d), .close]
        rest := a2 } := by
  cases d <;> simp only [readAttempt, h1, h2] <;> rfl

theorem length_of_readAttempt_ok {p : List Byte} (hok : (readAttempt h reg n a).outcome = .ok p) : p.length = n := by
  rcases h1 : a.take with ⟨d1, a1⟩
  cases d1 with
  | err =>
    rw [readAttempt_openFailed h1] at hok
    cases hok
  | ok bytes =>
    rcases h2 : a1.take with ⟨d2, a2⟩
    rw [readAttempt_answered h1 h2] at hok
    cases d2 with
    | err => cases hok
    | ok rx => exact length_of_judgeFrame_ok hok

end

/-- The last sub-error after an attempt: a good one leaves it (R120). -/
def LastErr.after (e : LastErr) : Except LastErr (List Byte) → LastErr
  | .ok _ => e
  | .error e' => e'

/-- How the Sequencer goes on from an attempt of the read loop (R138, R139). -/
def State.endReadAttempt (u : State) : Except LastErr (List Byte) → Result
  | .ok p => u.readSucceeded p
  | .error _ => .next u.readAttemptEnd

/-- The transfer and the close of a read: two steps. -/
theorem runSteps_readTransfer {s : State} {d : Draw} {a : Answers} (hq : s.seqState = .rXfer) (hs : s.schedule = [])
    (htake : s.answers.take = (d, a)) :
    ∃ u, s.BusRun u [.read s.cfg.devAddr s.tReg (s.tN + 1) (drawBytes d), .close]
        (s.lastErr.after (judgeAnswer s.tReg s.tN d)) a ∧
      runSteps 2 s = u.endReadAttempt (judgeAnswer s.tReg s.tN d) := by
  have hdraw := draw_of_take htake
  cases d with
  | err =>
    refine ⟨_, ?_, (runSteps_succ_sequencer 1 hs (sequencerStep_rXfer_err hq hdraw)).trans
      (runSteps_one_sequencer hs (sequencerStep_rClose_err rfl rfl))⟩
    exact ⟨rfl, rfl, List.append_assoc .., rfl, rfl⟩
  | ok rx =>
    rw [judgeAnswer]
    by_cases hlen : rx.length = s.tN + 1
    · obtain ⟨⟨p, c⟩, hsplit⟩ := Option.ne_none_iff_exists'.mp (mt splitFrame_eq_none.mp (not_not_intro hlen))
      rw [runSteps_succ_sequencer 1 hs (sequencerStep_rXfer_good hq hdraw hlen), judgeFrame_of_split hsplit]
      split_ifs with hcrc
      · refine ⟨_, ?_, runSteps_one_sequencer hs (sequencerStep_rClose_accepted rfl rfl hsplit hcrc)⟩
        exact ⟨rfl, rfl, List.append_assoc .., rfl, rfl⟩
      · refine ⟨_, ?_, runSteps_one_sequencer hs (sequencerStep_rClose_mismatch rfl rfl hsplit hcrc)⟩
        exact ⟨rfl, rfl, List.append_assoc .., rfl, rfl⟩
    · rw [runSteps_succ_sequencer 1 hs (sequencerStep_rXfer_bad hq hdraw hlen), judgeFrame_of_length_ne hlen]
      refine ⟨_, ?_, runSteps_one_sequencer hs (sequencerStep_rClose_err rfl rfl)⟩
      exact ⟨rfl, rfl, List.append_assoc .., rfl, rfl⟩

/-- `s` in the transfer state `q`, after a successful open and the wait, with the answers `a` left. -/
def State.paced (s : State) (q : SeqState) (a : Answers) : State :=
  { s with
    draws := a.fixed, drawCount := a.count, session := true, seqState := q
    history := s.history ++ [.opened s.cfg.busId true] ++ [.wait s.cfg.delay] }

theorem runSteps_rOpen_ok {s : State} {bytes : List Byte} {a : Answers} (k : Nat) (hq : s.seqState = .rOpen)
    (hs : s.schedule = []) (htake : s.answers.take = (.ok bytes, a)) :
    runSteps (k + 2) s = runSteps k (s.paced .rXfer a) :=
  (runSteps_succ_sequencer (k + 1) hs (sequencerStep_rOpen_ok hq (draw_of_take htake))).trans
    (runSteps_succ_sequencer k hs (sequencerStep_rWait rfl))

/-- The read attempt that the answers before `s` give. -/
def State.readAttemptRun (s : State) : AttemptRun := readAttempt s.cfg s.tReg s.tN s.answers

/-- One attempt of the read loop, one step per event. -/
theorem runSteps_readAttempt {s : State} {r : AttemptRun} (hq : s.seqState = .rOpen) (hs : s.schedule = [])
    (hsession : s.session = false) (hr : s.readAttemptRun = r) :
    ∃ u, s.BusRun u r.events (s.lastErr.after r.outcome) r.rest ∧
      runSteps r.events.length s = u.endReadAttempt r.outcome := by
  subst hr
  rcases h1 : s.answers.take with ⟨d1, a1⟩
  cases d1 with
  | err =>
    rw [State.readAttemptRun, readAttempt_openFailed h1]
    refine ⟨_, ?_, runSteps_one_sequencer hs (sequencerStep_rOpen_err hq (draw_of_take h1))⟩
    exact ⟨rfl, hsession, rfl, rfl, rfl⟩
  | ok bytes =>
    rcases h2 : a1.take with ⟨d2, a2⟩
    rw [State.readAttemptRun, readAttempt_answered h1 h2]
    obtain ⟨u, hbus, hrun⟩ := runSteps_readTransfer (s := s.paced .rXfer a1) rfl hs h2
    exact ⟨u, hbus.after (s := s) rfl (List.append_assoc ..), (runSteps_rOpen_ok 2 hq hs h1).trans hrun⟩

/-! ### The read loop -/

/-- `s` at the start of attempt `k` of its read loop; `ATTEMPTS` follows a top-level loop alone (R32, R138). -/
def State.atReadAttempt (s : State) (k : Nat) : State :=
  { s with ratt := k, attempts := if s.nested = true then s.attempts else BitVec.ofNat 8 k, seqState := .rOpen }

theorem readAttemptEnd_eq_atReadAttempt {s : State} (h : s.ratt < s.cfg.maxRetries) :
    s.readAttemptEnd = s.atReadAttempt (s.ratt + 1) :=
  readAttemptEnd_again h

@[simp] theorem atReadAttempt_atReadAttempt (s : State) (j k : Nat) :
    (s.atReadAttempt j).atReadAttempt k = s.atReadAttempt k := by
  cases hn : s.nested <;> simp [State.atReadAttempt, hn]

theorem atReadAttempt_eraseBus {s u : State} (h : u.eraseBus = s.eraseBus) (k : Nat) :
    (u.atReadAttempt k).eraseBus = (s.atReadAttempt k).eraseBus :=
  (congrArg (fun v => (State.atReadAttempt v k).eraseBus) h :)

section
variable {h : Config.Handle} {reg : Byte} {n left made : Nat} {e : LastErr} {a : Answers}

theorem readLoop_succ_ok {p : List Byte} (hok : (readAttempt h reg n a).outcome = .ok p) :
    readLoop h reg n (left + 1) made e a =
      { payload := some p, attempts := made + 1, lastErr := e, events := (readAttempt h reg n a).events
        rest := (readAttempt h reg n a).rest } := by
  simp only [readLoop, hok]

theorem readLoop_succ_error {e' : LastErr} (herr : (readAttempt h reg n a).outcome = .error e') :
    readLoop h reg n (left + 1) made e a =
      { readLoop h reg n left (made + 1) e' (readAttempt h reg n a).rest with
        events := (readAttempt h reg n a).events ++
          (readLoop h reg n left (made + 1) e' (readAttempt h reg n a).rest).events } := by
  simp only [readLoop, herr]

end

theorem length_of_readLoop_payload {h : Config.Handle} {reg : Byte} {n left made : Nat} {e : LastErr} {a : Answers}
    {p : List Byte} (hp : (readLoop h reg n left made e a).payload = some p) : p.length = n := by
  induction left generalizing made e a with
  | zero => cases hp
  | succ left ih =>
    cases houtcome : (readAttempt h reg n a).outcome with
    | ok q =>
      rw [readLoop_succ_ok houtcome] at hp
      cases hp
      exact length_of_readAttempt_ok houtcome
    | error e' =>
      rw [readLoop_succ_error houtcome] at hp
      exact ih hp

/-- A read loop that fails has spent its budget (R120). -/
theorem attempts_of_readLoop_none {h : Config.Handle} {reg : Byte} {n left made : Nat} {e : LastErr} {a : Answers}
    (hp : (readLoop h reg n left made e a).payload = none) :
    (readLoop h reg n left made e a).attempts = made + left := by
  induction left generalizing made e a with
  | zero => rfl
  | succ left ih =>
    cases houtcome : (readAttempt h reg n a).outcome with
    | ok q =>
      rw [readLoop_succ_ok houtcome] at hp
      cases hp
    | error e' =>
      rw [readLoop_succ_error houtcome] at hp ⊢
      exact (ih hp).trans (Nat.succ_add_eq_add_succ made left)

/-- How the Sequencer goes on from the read loop (R139, R140). -/
def State.endReadLoop (u : State) : Option (List Byte) → Result
  | some p => u.readSucceeded p
  | none => .next u.readFailed

/-- The read loop that the answers before `s` give. -/
def State.readLoopRun (s : State) (left made : Nat) : ReadRun :=
  readLoop s.cfg s.tReg s.tN left made s.lastErr s.answers

theorem State.readLoopRun_zero (s : State) (made : Nat) : s.readLoopRun 0 made =
    { payload := none, attempts := made, lastErr := s.lastErr, events := [], rest := s.answers } := rfl

/-- After a failed attempt the loop goes on with what that attempt has left. -/
theorem State.readLoopRun_succ_error {s u : State} {e : LastErr} {events : List Event} (left made : Nat)
    (h : s.readAttemptRun.outcome = .error e)
    (hbus : (s.atReadAttempt (made + 1)).BusRun u events e s.readAttemptRun.rest) :
    s.readLoopRun (left + 1) made =
      { u.readLoopRun left (made + 1) with
        events := s.readAttemptRun.events ++ (u.readLoopRun left (made + 1)).events } := by
  rw [State.readLoopRun, readLoop_succ_error h, State.readLoopRun, hbus.cfg, hbus.tReg, hbus.tN, hbus.lastErr,
    hbus.answers]
  rfl

/-- The read loop, one step per event, from the end of attempt `made` with `left` attempts to go. -/
theorem runSteps_readLoop (left : Nat) {made : Nat} {s : State} {r : ReadRun} (hs : s.schedule = [])
    (hsession : s.session = false) (hat : s.eraseBus = (s.atReadAttempt made).eraseBus)
    (hbudget : made + left = s.cfg.maxRetries) (hr : s.readLoopRun left made = r) :
    ∃ u, (s.atReadAttempt r.attempts).BusRun u r.events r.lastErr r.rest ∧
      runSteps r.events.length s.readAttemptEnd = u.endReadLoop r.payload := by
  subst hr
  have hratt : s.ratt = made := (congrArg State.ratt hat :)
  induction left generalizing made s with
  | zero =>
    rw [s.readLoopRun_zero, readAttemptEnd_last (by omega)]
    exact ⟨s, ⟨hat, hsession, (List.append_nil _).symm, rfl, rfl⟩, rfl⟩
  | succ left ih =>
    rw [readAttemptEnd_eq_atReadAttempt (by omega), hratt]
    obtain ⟨u, hbus, hrun⟩ := runSteps_readAttempt (s := s.atReadAttempt (made + 1)) (r := s.readAttemptRun) rfl hs
      hsession rfl
    cases houtcome : s.readAttemptRun.outcome with
    | ok p =>
      rw [houtcome] at hbus hrun
      rw [State.readLoopRun, readLoop_succ_ok houtcome]
      exact ⟨u, hbus, hrun⟩
    | error e =>
      rw [houtcome] at hbus hrun
      rw [State.readLoopRun_succ_error left made houtcome hbus]
      have hagain : ∀ k, (u.atReadAttempt k).eraseBus = (s.atReadAttempt k).eraseBus := fun k => by
        simpa using atReadAttempt_eraseBus hbus.same k
      obtain ⟨v, hbus', hrun'⟩ := ih (hbus.schedule.trans hs) hbus.session (hbus.same.trans (hagain _).symm)
        (by rw [hbus.cfg, Nat.succ_add_eq_add_succ]; exact hbudget) (congrArg State.ratt hbus.same :)
      refine ⟨v, hbus'.after (hagain _) hbus.history, ?_⟩
      rw [List.length_append, runSteps_add _ hrun]
      exact hrun'

/-- The whole read loop, from the start of its first attempt. -/
theorem runSteps_readLoop_start {s : State} {r : ReadRun} (hs : s.schedule = []) (hsession : s.session = false)
    (hr : s.readLoopRun s.cfg.maxRetries 0 = r) :
    ∃ u, (s.atReadAttempt r.attempts).BusRun u r.events r.lastErr r.rest ∧
      runSteps r.events.length (s.atReadAttempt 1) = u.endReadLoop r.payload := by
  have hstart : (s.atReadAttempt 0).readAttemptEnd = s.atReadAttempt 1 :=
    (readAttemptEnd_eq_atReadAttempt (s := s.atReadAttempt 0) s.cfg.maxRetries_range.1).trans
      (atReadAttempt_atReadAttempt s 0 1)
  obtain ⟨u, hbus, hrun⟩ := runSteps_readLoop s.cfg.maxRetries (made := 0) (s := s.atReadAttempt 0) hs hsession
    (by rw [atReadAttempt_atReadAttempt]) (Nat.zero_add _) hr
  rw [hstart] at hrun
  rw [atReadAttempt_atReadAttempt] at hbus
  exact ⟨u, hbus, hrun⟩

/-! ### Read commands -/

/-- A transaction that completes after a run on the bus has ended with what that run left. -/
theorem State.BusRun.endsAs {s s' u : State} {events : List Event} {e : LastErr} {rest : Answers} {k : Nat}
    (h : s'.BusRun u events e rest) (hframe : s'.eraseSequencer = s.eraseSequencer) (hhistory : s'.history = s.history)
    (hattempts : s'.attempts = BitVec.ofNat 8 k) (c : Code) (r : Word) (v : Bool) :
    s.EndsAs (u.completeTransaction c r v) c r v e k events rest := by
  have hu : u.eraseSequencer = s.eraseSequencer := (eraseSequencer_of_eraseBus h.same).trans hframe
  have hattempts' : u.attempts = BitVec.ofNat 8 k := (congrArg State.attempts h.same :).trans hattempts
  have split : u.completeTransaction c r v = State.completeTransaction c r v { u.eraseSequencer with
    lastErr := u.lastErr, attempts := u.attempts, session := u.session, history := u.history
    draws := u.answers.fixed, drawCount := u.answers.count, tXok := u.tXok, rxbuf := u.rxbuf } := rfl
  rw [State.EndsAs, split, hu, h.lastErr, hattempts', h.session, h.history, hhistory, h.answers]
  rfl

section
variable {s : State} {r : ReadRun} (hs : s.schedule = []) (hsession : s.session = false) (hn : s.nested = false)
  (hr : s.readLoopRun s.cfg.maxRetries 0 = r)
include hs hsession hn hr

/-- A top-level read whose loop accepts a payload completes with its value (R139, R142). -/
theorem readLoop_accepts (hkind : s.tOp ≠ .wr) (hlen : s.tN = s.payloadLength) {p : List Byte}
    (hp : r.payload = some p) :
    ∃ u x, runSteps r.events.length (s.atReadAttempt 1) = .next u ∧
      readValue s.tOp s.tW s.tS s.cfg.versionLayout p = some x ∧
      s.EndsAs u .ok x true r.lastErr r.attempts r.events r.rest := by
  have hlength : p.length = s.tN := length_of_readLoop_payload ((congrArg ReadRun.payload hr).trans hp)
  obtain ⟨x, hx⟩ := readValue_of_length s.tS s.cfg.versionLayout hkind (hlength.trans hlen)
  obtain ⟨u, hbus, hrun⟩ := runSteps_readLoop_start hs hsession hr
  rw [hp] at hrun
  refine ⟨_, x, hrun.trans (readSucceeded_top (hbus.nested.trans hn) ?_), hx,
    hbus.endsAs rfl rfl (by simp [State.atReadAttempt, hn]) _ _ _⟩
  rw [hbus.cfg, hbus.tOp, hbus.tW, hbus.tS]
  exact hx

/-- A top-level read whose loop spends its budget completes with `RETRIES_EXHAUSTED` (R140). -/
theorem readLoop_exhausts (hp : r.payload = none) :
    ∃ u, runSteps r.events.length (s.atReadAttempt 1) = .next u ∧ r.attempts = s.cfg.maxRetries ∧
      s.EndsAs u .retriesExhausted 0 false r.lastErr r.attempts r.events r.rest := by
  have hattempts : r.attempts = 0 + s.cfg.maxRetries := by
    subst hr
    exact attempts_of_readLoop_none hp
  obtain ⟨u, hbus, hrun⟩ := runSteps_readLoop_start hs hsession hr
  rw [hp, State.endReadLoop, readFailed_top (hbus.nested.trans hn)] at hrun
  exact ⟨_, hrun, hattempts.trans (Nat.zero_add _),
    hbus.endsAs rfl rfl (by simp [State.atReadAttempt, hn]) _ _ _⟩

end

/-- `s` after an accepted read of this kind, width and signedness, `k` free values used (R130). -/
def State.readStarted (s : State) (kind : TxnKind) (w : Width) (sg : Signedness) (reg : Byte) (k : Nat) : State :=
  { s.cleared.startLoop kind (payloadOf kind w) reg with tW := w, tS := sg, drawCount := k }

/-- Every read command on an idle block starts a read loop of its kind (R130). -/
theorem exec_read_starts {s t : State} {i : Instr} {reg : Byte} (hidle : s.busy = false)
    (hi : i ∈ [Instr.rd8u reg, .rd8s reg, .rd16u reg, .rd16s reg, .rdver reg, .rdupt reg])
    (h : exec i s = .next t) :
    ∃ kind w sg k, kind ≠ .wr ∧ t = s.readStarted kind w sg reg k := by
  simp only [List.mem_cons, List.not_mem_nil, or_false] at hi
  obtain rfl | rfl | rfl | rfl | rfl | rfl := hi <;> cases (accept_idle _ hidle).symm.trans h
  · exact ⟨.rd, .w8, .unsigned, _, by decide, rfl⟩
  · exact ⟨.rd, .w8, .signed, _, by decide, rfl⟩
  · exact ⟨.rd, .w16, .unsigned, _, by decide, rfl⟩
  · exact ⟨.rd, .w16, .signed, _, by decide, rfl⟩
  · exact ⟨.rdver, _, _, _, by decide, rfl⟩
  · exact ⟨.rdupt, _, _, _, by decide, rfl⟩

/-- Settles O58: the command stands at the first attempt of the loop, and after the loop a read that is not nested
completes with the loop's outcome. -/
theorem readRunsReadLoop : Obligations.ReadRunsReadLoop := by
  intro s t i reg hs hidle hschedule hi h r
  have hsession : s.session = false := (hs.fresh hidle).session
  obtain ⟨kind, w, sg, k, hkind, rfl⟩ := exec_read_starts hidle hi h
  cases hp : r.payload with
  | some p =>
    obtain ⟨u, x, hrun, hx, hends⟩ := readLoop_accepts (s := s.readStarted kind w sg reg k) (r := r) hschedule
      hsession rfl rfl hkind rfl hp
    exact ⟨u, hrun, x, hx, hends⟩
  | none =>
    obtain ⟨u, hrun, hattempts, hends⟩ := readLoop_exhausts (s := s.readStarted kind w sg reg k) (r := r) hschedule
      hsession rfl rfl hp
    exact ⟨u, hrun, hattempts, hends⟩

end Sys2Proof.Machine
end

section
/-!
PROOFS. The write loop of the source with its read-backs (R121, R125) beside the Sequencer: one attempt, whose
read-back is a whole read loop, then the loop.
-/

namespace Sys2Proof.Machine

open Sys2Proof.Config (Draw)

/-! ### One attempt of the write loop, as the source writes it -/

section
variable {h : Config.Handle} {reg : Byte} {w : Width} {sg : Signedness} {v : Int} {frame : List Byte} {made : Nat}
  {e : LastErr} {a a1 a2 : Answers}

theorem writeAttempt_openFailed (h1 : a.take = (.err, a1)) :
    writeAttempt h reg w sg v frame made e a =
      { verified := false, attempts := made + 1, lastErr := .transport, events := [.opened h.busId false]
        rest := a1 } := by
  simp only [writeAttempt, h1]

theorem writeAttempt_sendFailed {x1 : List Byte} (h1 : a.take = (.ok x1, a1)) (h2 : a1.take = (.err, a2)) :
    writeAttempt h reg w sg v frame made e a =
      { verified := false, attempts := made + 1, lastErr := .transport
        events := [.opened h.busId true, .wait h.delay, .write h.devAddr reg frame false, .close]
        rest := a2 } := by
  simp only [writeAttempt, h1, h2]

/-- The events of a write attempt up to its read-back. -/
def sentEvents (h : Config.Handle) (reg : Byte) (frame : List Byte) : List Event :=
  [.opened h.busId true, .wait h.delay, .write h.devAddr reg frame true, .close]

/-- What a read-back says of the write (R125, R143): whether the value written came back, and the last sub-error. -/
def ReadRun.verdict (r : ReadRun) (w : Width) (sg : Signedness) (v : Int) : Bool × LastErr :=
  match r.payload with
  | none => (false, r.lastErr)
  | some p => if decodeValue w sg p = some v then (true, r.lastErr) else (false, .verify)

theorem writeAttempt_sent {x1 x2 : List Byte} {r : ReadRun} (h1 : a.take = (.ok x1, a1)) (h2 : a1.take = (.ok x2, a2))
    (hr : readLoop h reg (payloadBytes w) h.maxRetries 0 e a2 = r) :
    writeAttempt h reg w sg v frame made e a =
      { verified := (r.verdict w sg v).1, attempts := made + 1, lastErr := (r.verdict w sg v).2
        events := sentEvents h reg frame ++ r.events, rest := r.rest } := by
  simp only [writeAttempt, h1, h2, hr, ReadRun.verdict, sentEvents]
  cases r.payload with
  | none => rfl
  | some p => by_cases hv : decodeValue w sg p = some v <;> simp only [hv, if_true, if_false]

theorem attempts_of_writeAttempt : (writeAttempt h reg w sg v frame made e a).attempts = made + 1 := by
  rcases h1 : a.take with ⟨_ | x1, a1⟩
  · rw [writeAttempt_openFailed h1]
  · rcases h2 : a1.take with ⟨_ | x2, a2⟩
    · rw [writeAttempt_sendFailed h1 h2]
    · rw [writeAttempt_sent h1 h2 rfl]

end

/-! ### One attempt of the write loop, as the Sequencer runs it -/

/-- A state from which a write attempt may start: the Sequencer moves alone, no read-back is on, and the read-back asks
for a payload of the value's width. -/
structure State.WriteReady (s : State) : Prop where
  schedule : s.schedule = []
  session : s.session = false
  nested : s.nested = false
  ratt : s.ratt = 0
  payload_length : s.tN = payloadBytes s.tW

theorem State.BusRun.writeReady {s u : State} {events : List Event} {e : LastErr} {rest : Answers}
    (h : s.BusRun u events e rest) (hs : s.WriteReady) : u.WriteReady where
  schedule := h.schedule.trans hs.schedule
  session := h.session
  nested := h.nested.trans hs.nested
  ratt := (congrArg State.ratt h.same :).trans hs.ratt
  payload_length := by rw [h.tN, h.tW, hs.payload_length]

/-- `s` after a frame sent and the close, at the start of the read-back, with the answers `a` left. -/
def State.sent (s : State) (a : Answers) : State :=
  { s.paced .wClose a with
    session := false, tXok := true, nested := true
    history := (s.paced .wClose a).history ++ [.write s.cfg.devAddr s.tReg s.tTx true] ++ [.close] }

theorem sent_history (s : State) (a : Answers) :
    (s.sent a).history = s.history ++ sentEvents s.cfg s.tReg s.tTx := by
  simp [State.sent, State.paced, sentEvents]

/-- A read-back that is over leaves the write attempt it was in. -/
theorem State.BusRun.readbackOver {s u : State} {a rest : Answers} {k : Nat} {events : List Event} {e : LastErr}
    (h : ((s.sent a).atReadAttempt k).BusRun u events e rest) (hs : s.WriteReady) (e' : LastErr) :
    s.BusRun { u with lastErr := e', nested := false, ratt := 0 } (sentEvents s.cfg s.tReg s.tTx ++ events) e'
      rest where
  same := by
    have hsame : { s with nested := false, ratt := 0 } = s := by rw [← hs.nested, ← hs.ratt]
    calc
      _ = { u.eraseBus with nested := false, ratt := 0 } := rfl
      _ = State.eraseBus { s with nested := false, ratt := 0 } := by rw [h.same]; rfl
      _ = s.eraseBus := by rw [hsame]
  session := h.session
  history := by rw [← List.append_assoc, ← sent_history s a]; exact h.history
  lastErr := rfl
  answers := h.answers

/-- The write attempt that the answers before `s` give. -/
def State.writeAttemptRun (s : State) (made : Nat) : WriteRun :=
  writeAttempt s.cfg s.tReg s.tW s.tS s.tVal s.tTx made s.lastErr s.answers

/-- How the Sequencer goes on from an attempt of the write loop (R141, R143). -/
def State.endWriteAttempt (u : State) (verified : Bool) : State :=
  if verified = true then u.completeTransaction .ok 0 false else u.writeAttemptEnd

theorem runSteps_wOpen_ok {s : State} {bytes : List Byte} {a : Answers} (k : Nat) (hq : s.seqState = .wOpen)
    (hs : s.schedule = []) (htake : s.answers.take = (.ok bytes, a)) :
    runSteps (k + 2) s = runSteps k (s.paced .wXfer a) :=
  (runSteps_succ_sequencer (k + 1) hs (sequencerStep_wOpen_ok hq (draw_of_take htake))).trans
    (runSteps_succ_sequencer k hs (sequencerStep_wWait rfl))

theorem runSteps_send_ok {s : State} {x1 x2 : List Byte} {a1 a2 : Answers} (k : Nat) (hq : s.seqState = .wOpen)
    (hs : s.schedule = []) (h1 : s.answers.take = (.ok x1, a1)) (h2 : a1.take = (.ok x2, a2)) :
    runSteps (k + 4) s = runSteps k ((s.sent a2).atReadAttempt 1) := by
  rw [runSteps_wOpen_ok (k + 2) hq hs h1,
    runSteps_succ_sequencer (s := s.paced .wXfer a1) (k + 1) hs (sequencerStep_wXfer rfl (draw_of_take h2))]
  exact runSteps_succ_sequencer k hs (sequencerStep_wClose_ok rfl rfl)

/-- A frame that the Transport did not take ends the attempt after four steps. -/
theorem runSteps_send_err {s : State} {x1 : List Byte} {a1 a2 : Answers} (hq : s.seqState = .wOpen)
    (hs : s.schedule = []) (h1 : s.answers.take = (.ok x1, a1)) (h2 : a1.take = (.err, a2)) :
    ∃ u, s.BusRun u [.opened s.cfg.busId true, .wait s.cfg.delay, .write s.cfg.devAddr s.tReg s.tTx false, .close]
        .transport a2 ∧
      runSteps 4 s = .next u.writeAttemptEnd := by
  rw [runSteps_wOpen_ok 2 hq hs h1,
    runSteps_succ_sequencer (s := s.paced .wXfer a1) 1 hs (sequencerStep_wXfer rfl (draw_of_take h2))]
  refine ⟨_, ?_, runSteps_one_sequencer hs (sequencerStep_wClose_err rfl rfl)⟩
  exact ⟨rfl, rfl, by simp [State.paced, drawOk], rfl, rfl⟩

/-- How a read-back ends its write attempt (R140, R143). -/
theorem readback_ends {s u : State} {a : Answers} {r : ReadRun}
    (hbus : ((s.sent a).atReadAttempt r.attempts).BusRun u r.events r.lastErr r.rest)
    (hlen : ∀ p, r.payload = some p → p.length = payloadBytes s.tW) :
    u.endReadLoop r.payload = .next (State.endWriteAttempt
      { u with lastErr := (r.verdict s.tW s.tS s.tVal).2, nested := false, ratt := 0 }
      (r.verdict s.tW s.tS s.tVal).1) := by
  have hn : u.nested = true := hbus.nested
  have hdecode : ∀ p, decodeValue u.tW u.tS p = decodeValue s.tW s.tS p := fun p => by rw [hbus.tW, hbus.tS]; rfl
  have hval : u.tVal = s.tVal := hbus.tVal
  cases hp : r.payload with
  | none =>
    simp only [ReadRun.verdict, hp, ← hbus.lastErr]
    exact congrArg _ (readFailed_nested hn)
  | some p =>
    simp only [ReadRun.verdict, hp]
    split_ifs with hv
    · simp only [← hbus.lastErr]
      exact readSucceeded_verified hn (by rw [hdecode, hval, hv])
    · obtain ⟨v, hv'⟩ := (decode_of_length s.tS (hlen p hp)).1
      exact readSucceeded_differs hn ((hdecode p).trans hv') fun heq => hv (by rw [hv', heq, hval])

/-- One attempt of the write loop, one step per event. -/
theorem runSteps_writeAttempt {s : State} {made : Nat} {r : WriteRun} (hq : s.seqState = .wOpen) (hs : s.WriteReady)
    (hr : s.writeAttemptRun made = r) :
    ∃ u, s.BusRun u r.events r.lastErr r.rest ∧
      runSteps r.events.length s = .next (u.endWriteAttempt r.verified) := by
  subst hr
  rcases h1 : s.answers.take with ⟨_ | x1, a1⟩
  · rw [State.writeAttemptRun, writeAttempt_openFailed h1]
    refine ⟨_, ?_, runSteps_one_sequencer hs.schedule (sequencerStep_wOpen_err hq (draw_of_take h1))⟩
    exact ⟨rfl, hs.session, rfl, rfl, rfl⟩
  · rcases h2 : a1.take with ⟨_ | x2, a2⟩
    · rw [State.writeAttemptRun, writeAttempt_sendFailed h1 h2]
      exact runSteps_send_err hq hs.schedule h1 h2
    · obtain ⟨u, hbus, hrun⟩ := runSteps_readLoop_start (s := s.sent a2) hs.schedule rfl rfl
      have hr : readLoop s.cfg s.tReg (payloadBytes s.tW) s.cfg.maxRetries 0 s.lastErr a2 =
          (s.sent a2).readLoopRun (s.sent a2).cfg.maxRetries 0 := by rw [← hs.payload_length]; rfl
      rw [State.writeAttemptRun, writeAttempt_sent h1 h2 hr]
      refine ⟨_, hbus.readbackOver hs _, (runSteps_send_ok _ hq hs.schedule h1 h2).trans (hrun.trans ?_)⟩
      exact readback_ends hbus fun p hp => (length_of_readLoop_payload hp).trans hs.payload_length

/-! ### The write loop -/

/-- `s` at the start of attempt `k` of its write loop (R141). -/
def State.atWriteAttempt (s : State) (k : Nat) : State :=
  { s with att := k, attempts := BitVec.ofNat 8 k, seqState := .wOpen }

theorem writeAttemptEnd_eq_atWriteAttempt {s : State} (h : s.att < s.cfg.maxRetries) :
    s.writeAttemptEnd = s.atWriteAttempt (s.att + 1) :=
  writeAttemptEnd_again h

theorem atWriteAttempt_eraseBus {s u : State} (h : u.eraseBus = s.eraseBus) (k : Nat) :
    (u.atWriteAttempt k).eraseBus = (s.atWriteAttempt k).eraseBus :=
  (congrArg (fun v => (State.atWriteAttempt v k).eraseBus) h :)

theorem State.WriteReady.atWriteAttempt {s : State} (h : s.WriteReady) (k : Nat) : (s.atWriteAttempt k).WriteReady :=
  ⟨h.schedule, h.session, h.nested, h.ratt, h.payload_length⟩

section
variable {h : Config.Handle} {reg : Byte} {w : Width} {sg : Signedness} {v : Int} {frame : List Byte}
  {left made : Nat} {e : LastErr} {a : Answers}

theorem writeLoop_succ_verified (hv : (writeAttempt h reg w sg v frame made e a).verified = true) :
    writeLoop h reg w sg v frame (left + 1) made e a = writeAttempt h reg w sg v frame made e a := by
  simp only [writeLoop, hv, if_true]

theorem writeLoop_succ_failed {t : WriteRun} (ht : writeAttempt h reg w sg v frame made e a = t)
    (hv : t.verified = false) :
    writeLoop h reg w sg v frame (left + 1) made e a =
      { writeLoop h reg w sg v frame left (made + 1) t.lastErr t.rest with
        events := t.events ++ (writeLoop h reg w sg v frame left (made + 1) t.lastErr t.rest).events } := by
  simp only [writeLoop, ht, hv, Bool.false_eq_true, if_false]

end

/-- The write loop that the answers before `s` give. -/
def State.writeLoopRun (s : State) (left made : Nat) : WriteRun :=
  writeLoop s.cfg s.tReg s.tW s.tS s.tVal s.tTx left made s.lastErr s.answers

/-- After a failed attempt the loop goes on with what that attempt has left. -/
theorem State.writeLoopRun_succ_failed {s u : State} {left made k : Nat} {events : List Event}
    (hv : (s.writeAttemptRun made).verified = false)
    (hbus : (s.atWriteAttempt k).BusRun u events (s.writeAttemptRun made).lastErr (s.writeAttemptRun made).rest) :
    s.writeLoopRun (left + 1) made =
      { u.writeLoopRun left (made + 1) with
        events := (s.writeAttemptRun made).events ++ (u.writeLoopRun left (made + 1)).events } := by
  rw [State.writeLoopRun, writeLoop_succ_failed (t := s.writeAttemptRun made) rfl hv, State.writeLoopRun, hbus.cfg,
    hbus.tReg, hbus.tW, hbus.tS, hbus.tVal, hbus.tTx, hbus.lastErr, hbus.answers]
  rfl

/-- How the Sequencer goes on from the write loop (R141, R143). -/
def State.endWriteLoop (u : State) (verified : Bool) : State :=
  u.completeTransaction (if verified = true then .ok else .retriesExhausted) 0 false

/-- The write loop, one step per event, from the end of attempt `made` with `left` attempts to go. -/
theorem runSteps_writeLoop (left : Nat) {made : Nat} {s : State} {r : WriteRun} (hs : s.WriteReady)
    (hat : s.eraseBus = (s.atWriteAttempt made).eraseBus) (hbudget : made + left = s.cfg.maxRetries)
    (hr : s.writeLoopRun left made = r) :
    ∃ u, (s.atWriteAttempt r.attempts).BusRun u r.events r.lastErr r.rest ∧
      runSteps r.events.length s.writeAttemptEnd = .next (u.endWriteLoop r.verified) := by
  subst hr
  have hatt : s.att = made := (congrArg State.att hat :)
  induction left generalizing made s with
  | zero =>
    rw [writeAttemptEnd_last (by omega)]
    exact ⟨s, ⟨hat, hs.session, (List.append_nil _).symm, rfl, rfl⟩, rfl⟩
  | succ left ih =>
    rw [writeAttemptEnd_eq_atWriteAttempt (by omega), hatt]
    obtain ⟨u, hbus, hrun⟩ := runSteps_writeAttempt (s := s.atWriteAttempt (made + 1)) (r := s.writeAttemptRun made) rfl
      (hs.atWriteAttempt _) rfl
    cases hv : (s.writeAttemptRun made).verified with
    | true =>
      rw [hv] at hrun
      have hloop : s.writeLoopRun (left + 1) made = s.writeAttemptRun made := writeLoop_succ_verified hv
      have hattempts : (s.writeAttemptRun made).attempts = made + 1 := attempts_of_writeAttempt
      rw [hloop, hattempts, hv]
      exact ⟨u, hbus, hrun⟩
    | false =>
      rw [hv] at hrun
      rw [State.writeLoopRun_succ_failed hv hbus]
      have hagain : ∀ k, (u.atWriteAttempt k).eraseBus = (s.atWriteAttempt k).eraseBus :=
        fun k => (atWriteAttempt_eraseBus hbus.same k :)
      obtain ⟨v, hbus', hrun'⟩ := ih (hbus.writeReady (hs.atWriteAttempt _)) (hbus.same.trans (hagain _).symm)
        (by rw [hbus.cfg, Nat.succ_add_eq_add_succ]; exact hbudget) (congrArg State.att hbus.same :)
      refine ⟨v, hbus'.after (hagain _) hbus.history, ?_⟩
      rw [List.length_append, runSteps_add _ hrun]
      exact hrun'

/-- The whole write loop, from the start of its first attempt. -/
theorem runSteps_writeLoop_start {s : State} {r : WriteRun} (hs : s.WriteReady)
    (hr : s.writeLoopRun s.cfg.maxRetries 0 = r) :
    ∃ u, (s.atWriteAttempt r.attempts).BusRun u r.events r.lastErr r.rest ∧
      runSteps r.events.length (s.atWriteAttempt 1) = .next (u.endWriteLoop r.verified) := by
  have hstart : (s.atWriteAttempt 0).writeAttemptEnd = s.atWriteAttempt 1 :=
    writeAttemptEnd_eq_atWriteAttempt (s := s.atWriteAttempt 0) s.cfg.maxRetries_range.1
  obtain ⟨u, hbus, hrun⟩ :=
    runSteps_writeLoop s.cfg.maxRetries (made := 0) (hs.atWriteAttempt 0) rfl (Nat.zero_add _) hr
  rw [hstart] at hrun
  exact ⟨u, hbus, hrun⟩

/-! ### Write commands -/

theorem exists_writeCommand {i : Instr} {reg : Byte} (hi : i ∈ [Instr.wr8u reg, .wr8s reg, .wr16u reg, .wr16s reg]) :
    ∃ w sg, i = writeCommand w sg reg := by
  simp only [List.mem_cons, List.not_mem_nil, or_false] at hi
  obtain rfl | rfl | rfl | rfl := hi
  · exact ⟨.w8, .unsigned, rfl⟩
  · exact ⟨.w8, .signed, rfl⟩
  · exact ⟨.w16, .unsigned, rfl⟩
  · exact ⟨.w16, .signed, rfl⟩

/-- Settles O59: the command stands at the first attempt of the loop, and after the loop the write completes. -/
theorem writeRunsWriteLoop : Obligations.WriteRunsWriteLoop := by
  intro s t i reg hs hidle hschedule hi h hbusy r
  obtain ⟨w, sg, rfl⟩ := exists_writeCommand hi
  obtain ⟨e, -, rfl⟩ := exec_writeCommand_busy reg hidle h hbusy
  have hready : (s.writeStarted w sg reg e).WriteReady :=
    ⟨hschedule, (hs.fresh hidle).session, rfl, rfl, rfl⟩
  obtain ⟨u, hbus, hrun⟩ := runSteps_writeLoop_start (r := r) hready rfl
  exact ⟨_, hrun, hbus.endsAs rfl rfl rfl _ _ _⟩

end Sys2Proof.Machine
end

section
/-!
PROOFS. How a transaction ends (R145, R149): what a Sequencer step of a busy block can be, said once; the code that the
last step leaves; and a count of the steps left, which every other step lowers.
-/

namespace Sys2Proof.Machine

/-! ### What a Sequencer step can be -/

/-- The state after `q` in the same attempt, while its steps succeed; none past the close (R131 to R138). -/
def SeqState.next : SeqState → Option SeqState
  | .wOpen => some .wWait
  | .wWait => some .wXfer
  | .wXfer => some .wClose
  | .rOpen => some .rWait
  | .rWait => some .rXfer
  | .rXfer => some .rClose
  | .wClose | .rClose | .idle => none

/-- What a Sequencer step makes of a busy block `s`: it goes on within the attempt, starts a read-back, ends an
attempt, or completes the transaction. `u` is `s` after the step on the bus. -/
inductive State.SequencerMoves (s : State) : State → Prop
  | goesOn {t : State} (same : t.eraseBus = s.eraseBus) (next : s.seqState.next = some t.seqState) :
    SequencerMoves s t
  | readsBack {u : State} (same : u.eraseBus = s.eraseBus) (hq : s.seqState = .wClose) :
    SequencerMoves s { u with nested := true, ratt := 1, seqState := .rOpen }
  | writeFails {u : State} (same : u.eraseBus = s.eraseBus) (hq : s.seqState.inWrite = true) :
    SequencerMoves s u.writeAttemptEnd
  | readFails {u : State} (same : u.eraseBus = s.eraseBus) (hq : s.seqState.inRead = true) :
    SequencerMoves s u.readAttemptEnd
  | differs {u : State} (same : u.eraseBus = s.eraseBus) (hq : s.seqState.inRead = true) (hn : s.nested = true) :
    SequencerMoves s (State.writeAttemptEnd { u with nested := false, ratt := 0 })
  | completes (u : State) (r : Word) (v : Bool) : SequencerMoves s (u.completeTransaction .ok r v)

theorem stepWOpen_moves {s t : State} (hq : s.seqState = .wOpen) (h : stepWOpen s = .next t) :
    s.SequencerMoves t := by
  unfold stepWOpen at h
  split at h <;> cases h
  · exact .goesOn (tOpen_eraseBus s) (by rw [hq]; rfl)
  · exact .writeFails (tOpen_eraseBus s) (by rw [hq]; rfl)

theorem stepWClose_moves {s t : State} (hq : s.seqState = .wClose) (h : stepWClose s = .next t) :
    s.SequencerMoves t := by
  unfold stepWClose at h
  split at h <;> cases h
  · exact .readsBack (u := s.tClose) rfl hq
  · exact .writeFails rfl (by rw [hq]; rfl)

theorem stepROpen_moves {s t : State} (hq : s.seqState = .rOpen) (h : stepROpen s = .next t) :
    s.SequencerMoves t := by
  unfold stepROpen at h
  split at h <;> cases h
  · exact .goesOn (tOpen_eraseBus s) (by rw [hq]; rfl)
  · exact .readFails (tOpen_eraseBus s) (by rw [hq]; rfl)

theorem stepRClose_moves {s t : State} (hq : s.seqState = .rClose) (h : stepRClose s = .next t) :
    s.SequencerMoves t := by
  have hread : s.seqState.inRead = true := by rw [hq]; rfl
  unfold stepRClose at h
  split at h
  · obtain rfl | ⟨-, r, rfl⟩ | ⟨hn, rfl | rfl⟩ := checkFrame_cases h
    · exact .readFails rfl hread
    · exact .completes _ _ _
    · exact .completes _ _ _
    · exact .differs (u := { s.tClose with lastErr := .verify }) rfl hread hn
  · cases h
    exact .readFails rfl hread

theorem sequencerStep_moves {s t : State} (hbusy : s.busy = true) (h : sequencerStep s = .next t) :
    s.SequencerMoves t := by
  rw [State.busy_iff] at hbusy
  unfold sequencerStep at h
  generalize hq : s.seqState = q at hbusy h
  cases q with
  | idle => exact absurd rfl hbusy
  | wOpen => exact stepWOpen_moves hq h
  | wClose => exact stepWClose_moves hq h
  | rOpen => exact stepROpen_moves hq h
  | rClose => exact stepRClose_moves hq h
  | wWait | rWait => cases h; exact .goesOn rfl (by rw [hq]; rfl)
  | wXfer => cases h; exact .goesOn (tWriteBlock_eraseBus s s.tReg s.tTx) (by rw [hq]; rfl)
  | rXfer => exact .goesOn (stepRXfer_eraseBus h) (by rw [hq]; cases h; rfl)

/-! ### The code of an outcome -/

theorem SeqState.next_ne_idle {q q' : SeqState} (h : q.next = some q') : q' ≠ .idle := by
  rintro rfl
  cases q <;> cases h

theorem busy_of_next {s t : State} (h : s.seqState.next = some t.seqState) : t.busy = true :=
  t.busy_iff.mpr (SeqState.next_ne_idle h)

theorem writeAttemptEnd_code {s : State} (h : s.writeAttemptEnd.busy = false) :
    s.writeAttemptEnd.code = .retriesExhausted := by
  rcases Nat.lt_or_ge s.att s.cfg.maxRetries with again | last
  · rw [writeAttemptEnd_again again] at h
    cases h
  · rw [writeAttemptEnd_last last]
    rfl

theorem readFailed_code {s : State} (h : s.readFailed.busy = false) : s.readFailed.code = .retriesExhausted := by
  cases hn : s.nested with
  | true =>
    rw [readFailed_nested hn] at h ⊢
    exact writeAttemptEnd_code h
  | false =>
    rw [readFailed_top hn]
    rfl

theorem readAttemptEnd_code {s : State} (h : s.readAttemptEnd.busy = false) :
    s.readAttemptEnd.code = .retriesExhausted := by
  rcases Nat.lt_or_ge s.ratt s.cfg.maxRetries with again | last
  · rw [readAttemptEnd_again again] at h
    cases h
  · rw [readAttemptEnd_last last] at h ⊢
    exact readFailed_code h

theorem State.SequencerMoves.code {s t : State} (h : s.SequencerMoves t) (hidle : t.busy = false) :
    t.code = .ok ∨ t.code = .retriesExhausted := by
  cases h with
  | goesOn _ hnext => simp [busy_of_next hnext] at hidle
  | readsBack => cases hidle
  | writeFails | differs => exact .inr (writeAttemptEnd_code hidle)
  | readFails => exact .inr (readAttemptEnd_code hidle)
  | completes => exact .inl rfl

/-- Settles O56: while the block is busy the invariant shows no code; a step that ends the transaction is one of the
Sequencer, and by the invariant a code other than `OK` comes with no value. -/
theorem transactionEndsByCode : Obligations.TransactionEndsByCode := by
  intro s t hs hbusy h
  have ht : t.Good := stepKeepsGood s t hs h
  refine ⟨fun hbusy' => (ht.running hbusy').1, fun hidle => ?_⟩
  obtain ⟨rest, -, hstep⟩ | ⟨m, rest, -, hstep⟩ := step_cases h
  · refine (sequencerStep_moves (s := { s with schedule := rest }) hbusy hstep).code hidle |>.imp_right fun hcode => ?_
    have hvalid : t.valid = false := by
      by_contra hv
      simp [ht.valid_ok (by simpa using hv)] at hcode
    exact ⟨hcode, ht.no_value hvalid, hvalid⟩
  · obtain ⟨_, _, _, _, rfl⟩ := hostStep_busy (s := { s with schedule := rest }) hbusy hstep
    cases hbusy.symm.trans hidle

/-! ### The steps left -/

/-- The steps left in an attempt of one loop, if they succeed. -/
def SeqState.stepsLeft : SeqState → Nat
  | .wOpen | .rOpen => 4
  | .wWait | .rWait => 3
  | .wXfer | .rXfer => 2
  | .wClose | .rClose => 1
  | .idle => 0

/-- The most steps that the write attempts after the present one can take, each with a read-back of `N` attempts. -/
def State.laterWriteSteps (s : State) : Nat :=
  if s.tOp = .wr then (4 + 4 * s.cfg.maxRetries) * (s.cfg.maxRetries - s.att) else 0

/-- The most steps a transaction can still take (R149). -/
def State.stepsLeft (s : State) : Nat :=
  s.seqState.stepsLeft +
    (if s.seqState.inWrite = true then 4 * s.cfg.maxRetries else 4 * (s.cfg.maxRetries - s.ratt)) + s.laterWriteSteps

/-- A step on the bus keeps what the count looks at, but for the state of the Sequencer. -/
theorem counters_of_eraseBus {s u : State} (h : u.eraseBus = s.eraseBus) :
    u.cfg = s.cfg ∧ u.tOp = s.tOp ∧ u.nested = s.nested ∧ u.ratt = s.ratt :=
  ⟨(congrArg State.cfg h :), (congrArg State.tOp h :), (congrArg State.nested h :), (congrArg State.ratt h :)⟩

theorem laterWriteSteps_of_eraseBus {s u : State} (h : u.eraseBus = s.eraseBus) :
    u.laterWriteSteps = s.laterWriteSteps :=
  (congrArg State.laterWriteSteps h :)

theorem stepsLeft_inWrite {s : State} (h : s.seqState.inWrite = true) :
    s.stepsLeft = s.seqState.stepsLeft + 4 * s.cfg.maxRetries + s.laterWriteSteps := by
  rw [State.stepsLeft, if_pos h]

theorem stepsLeft_inRead {s : State} (h : s.seqState.inRead = true) :
    s.stepsLeft = s.seqState.stepsLeft + 4 * (s.cfg.maxRetries - s.ratt) + s.laterWriteSteps := by
  rw [State.stepsLeft, if_neg]
  intro hw
  simp [SeqState.inRead_of_inWrite hw] at h

theorem SeqState.stepsLeft_pos {q : SeqState} (h : q ≠ .idle) : 1 ≤ q.stepsLeft := by
  cases q with
  | idle => exact absurd rfl h
  | _ => decide

theorem SeqState.stepsLeft_le (q : SeqState) : q.stepsLeft ≤ 4 := by
  cases q <;> decide

theorem SeqState.next_stepsLeft {q q' : SeqState} (h : q.next = some q') :
    q'.stepsLeft < q.stepsLeft ∧ q'.inWrite = q.inWrite := by
  cases q <;> cases h <;> decide

theorem writeAttemptEnd_stepsLeft {s : State} (hop : s.tOp = .wr) :
    s.writeAttemptEnd.busy = false ∨ s.writeAttemptEnd.stepsLeft ≤ s.laterWriteSteps := by
  rcases Nat.lt_or_ge s.att s.cfg.maxRetries with again | last
  · right
    rw [writeAttemptEnd_again again, stepsLeft_inWrite rfl]
    obtain ⟨k, hk⟩ : ∃ k, s.cfg.maxRetries - s.att = k + 1 := ⟨s.cfg.maxRetries - s.att - 1, by omega⟩
    simp only [State.laterWriteSteps, hop, if_true, SeqState.stepsLeft, Nat.sub_add_eq, hk, Nat.add_sub_cancel,
      Nat.mul_succ]
    omega
  · left
    rw [writeAttemptEnd_last last]
    rfl

theorem readAttemptEnd_stepsLeft {s : State} (hop : s.nested = true → s.tOp = .wr) :
    s.readAttemptEnd.busy = false ∨
      s.readAttemptEnd.stepsLeft ≤ 4 * (s.cfg.maxRetries - s.ratt) + s.laterWriteSteps := by
  rcases Nat.lt_or_ge s.ratt s.cfg.maxRetries with again | last
  · right
    rw [readAttemptEnd_again again, stepsLeft_inRead rfl]
    simp only [State.laterWriteSteps, SeqState.stepsLeft]
    omega
  · rw [readAttemptEnd_last last]
    cases hn : s.nested with
    | true =>
      rw [readFailed_nested hn]
      exact (writeAttemptEnd_stepsLeft (s := { s with nested := false, ratt := 0 }) (hop hn)).imp_right
        Nat.le_add_left_of_le
    | false =>
      rw [readFailed_top hn]
      exact .inl rfl

/-- Every step of a running transaction ends it or lowers the steps left. -/
theorem State.SequencerMoves.stepsLeft_lt {s t : State} (h : s.SequencerMoves t) (hs : s.Good) (hbusy : s.busy = true) :
    t.busy = false ∨ t.stepsLeft < s.stepsLeft := by
  have hpos := SeqState.stepsLeft_pos (s.busy_iff.mp hbusy)
  cases h with
  | goesOn same next =>
    obtain ⟨hlt, hwrite⟩ := SeqState.next_stepsLeft next
    obtain ⟨hcfg, -, -, hratt⟩ := counters_of_eraseBus same
    right
    rw [State.stepsLeft, State.stepsLeft, hwrite, hcfg, hratt, laterWriteSteps_of_eraseBus same]
    omega
  | @readsBack u same hq =>
    obtain ⟨hcfg, -, -, -⟩ := counters_of_eraseBus same
    have hlater : State.laterWriteSteps { u with nested := true, ratt := 1, seqState := .rOpen } = s.laterWriteSteps :=
      (laterWriteSteps_of_eraseBus same :)
    have hN := s.cfg.maxRetries_range.1
    right
    rw [stepsLeft_inRead rfl, stepsLeft_inWrite (by rw [hq]; rfl), hlater]
    simp only [hcfg, hq, SeqState.stepsLeft]
    omega
  | writeFails same hq =>
    obtain ⟨-, hop, -, -⟩ := counters_of_eraseBus same
    rw [stepsLeft_inWrite hq, ← laterWriteSteps_of_eraseBus same]
    exact (writeAttemptEnd_stepsLeft (hop.trans (hs.write_loop hq).1)).imp_right fun h => by omega
  | readFails same hq =>
    obtain ⟨hcfg, hop, hn, hratt⟩ := counters_of_eraseBus same
    obtain ⟨-, -, hnested⟩ := hs.read_loop hq
    rw [stepsLeft_inRead hq, ← laterWriteSteps_of_eraseBus same, ← hcfg, ← hratt]
    exact (readAttemptEnd_stepsLeft (by rw [hn, hop]; exact hnested.mp)).imp_right fun h => by omega
  | @differs u same hq hn =>
    obtain ⟨-, hop, -, -⟩ := counters_of_eraseBus same
    have hlater : State.laterWriteSteps { u with nested := false, ratt := 0 } = s.laterWriteSteps :=
      (laterWriteSteps_of_eraseBus same :)
    rw [stepsLeft_inRead hq, ← hlater]
    have hend := writeAttemptEnd_stepsLeft (s := { u with nested := false, ratt := 0 })
      (hop.trans (hs.nested_write hn).1)
    exact hend.imp_right fun h => by omega
  | completes => exact .inl rfl

theorem runs_to_idle (n : Nat) {s : State} (hs : s.Good) (hbusy : s.busy = true) (hschedule : s.schedule = [])
    (hn : s.stepsLeft ≤ n) : ∃ k u, k ≤ n ∧ runSteps k s = .next u ∧ u.busy = false := by
  induction n generalizing s with
  | zero =>
    have hpos := SeqState.stepsLeft_pos (s.busy_iff.mp hbusy)
    rw [State.stepsLeft] at hn
    omega
  | succ n ih =>
    obtain ⟨t, ht⟩ := sequencerStep_answers_next hs
    have hstep := runSteps_succ_sequencer (t := t) (hs := hschedule) (h := ht)
    cases hb : t.busy with
    | false => exact ⟨1, t, Nat.le_add_left .., hstep 0, hb⟩
    | true =>
      obtain hidle | hlt := (sequencerStep_moves hbusy ht).stepsLeft_lt hs hbusy
      · simp [hb] at hidle
      · have hschedule' : t.schedule = s.schedule := (congrArg State.schedule (sequencerStep_eraseSequencer ht) :)
        obtain ⟨k, u, hk, hrun, hidle⟩ := ih (sequencerStep_good hs ht) hb (hschedule'.trans hschedule) (by omega)
        exact ⟨k + 1, u, Nat.succ_le_succ hk, (hstep k).trans hrun, hidle⟩

theorem inWrite_or_inRead_of_busy {s : State} (h : s.busy = true) :
    s.seqState.inWrite = true ∨ s.seqState.inRead = true := by
  have hq := s.busy_iff.mp h
  generalize s.seqState = q at hq
  cases q with
  | idle => exact absurd rfl hq
  | wOpen | wWait | wXfer | wClose => exact .inl rfl
  | rOpen | rWait | rXfer | rClose => exact .inr rfl

/-- The attempts after one that is running are fewer than `N`. -/
theorem laterWriteSteps_le {s : State} (hop : s.tOp = .wr) (hatt : 1 ≤ s.att ∧ s.att ≤ s.cfg.maxRetries) :
    4 + 4 * s.cfg.maxRetries + s.laterWriteSteps ≤ s.cfg.maxRetries * (4 + 4 * s.cfg.maxRetries) := by
  obtain ⟨hlow, hhigh⟩ := hatt
  have hfewer : s.cfg.maxRetries - s.att + 1 ≤ s.cfg.maxRetries := by omega
  rw [State.laterWriteSteps, if_pos hop, Nat.mul_comm s.cfg.maxRetries]
  exact (Nat.add_comm ..).trans_le (Nat.mul_le_mul_left (4 + 4 * s.cfg.maxRetries) hfewer)

/-- The bound of R149, from the counters of a good state. -/
theorem State.Good.stepsLeft_le {s : State} (hs : s.Good) (hbusy : s.busy = true) :
    s.stepsLeft ≤
      if s.tOp = .wr then s.cfg.maxRetries * (4 + 4 * s.cfg.maxRetries) else 4 * s.cfg.maxRetries := by
  have hq := s.seqState.stepsLeft_le
  obtain hw | hr := inWrite_or_inRead_of_busy hbusy
  · obtain ⟨hop, -, -, hatt⟩ := hs.write_loop hw
    have hlater := laterWriteSteps_le hop hatt
    rw [stepsLeft_inWrite hw, if_pos hop]
    omega
  · obtain ⟨hlow, hhigh, hnested⟩ := hs.read_loop hr
    rw [stepsLeft_inRead hr]
    split_ifs with hop
    · have hlater := laterWriteSteps_le hop (hs.nested_write (hnested.mpr hop)).2
      omega
    · rw [State.laterWriteSteps, if_neg hop]
      omega

/-- Settles O57: the steps left are within the bound, and each step that does not end the transaction lowers them. -/
theorem transactionsTerminate : Obligations.TransactionsTerminate := fun _ hs hbusy hschedule =>
  runs_to_idle _ hs hbusy hschedule (hs.stepsLeft_le hbusy)

end Sys2Proof.Machine
end

section
/-!
PROOFS. A faithful store (R151): where no answer fails and a read returns the frame written, the loops of the source end
at their first attempt, and the Sequencer runs them.
-/

namespace Sys2Proof.Machine

open Sys2Proof.Config (Draw)

/-! ### The loops under faithful answers -/

/-- The answers of a faithful read of a register that holds the frame of `e`. -/
def faithfulRead (reg : Byte) (e x : List Byte) (rest : List Draw) : List Draw :=
  .ok x :: .ok (e ++ [crcOver reg e]) :: rest

/-- The events of a faithful read. -/
def faithfulReadEvents (h : Config.Handle) (reg : Byte) (e : List Byte) : List Event :=
  [.opened h.busId true, .wait h.delay, .read h.devAddr reg (e.length + 1) (some (e ++ [crcOver reg e])), .close]

theorem judgeFrame_faithful (reg : Byte) (e : List Byte) :
    judgeFrame reg e.length (e ++ [crcOver reg e]) = .ok e := by
  rw [judgeFrame_of_split (splitFrame_eq_some.mpr ⟨rfl, rfl⟩), if_pos rfl]

theorem readLoop_faithful (h : Config.Handle) (reg : Byte) (e x : List Byte) (rest : List Draw) (count : Nat)
    (le : LastErr) :
    readLoop h reg e.length h.maxRetries 0 le ⟨faithfulRead reg e x rest, count⟩ =
      { payload := some e, attempts := 1, lastErr := le, events := faithfulReadEvents h reg e
        rest := ⟨rest, count⟩ } := by
  obtain ⟨left, hleft⟩ := Nat.exists_eq_add_of_le' h.maxRetries_range.1
  have hattempt : readAttempt h reg e.length ⟨faithfulRead reg e x rest, count⟩ =
      { outcome := .ok e, events := faithfulReadEvents h reg e, rest := ⟨rest, count⟩ } := by
    rw [readAttempt_answered rfl rfl, judgeAnswer, judgeFrame_faithful]
    rfl
  rw [hleft, readLoop_succ_ok (by rw [hattempt]), hattempt]

theorem writeLoop_faithful {w : Width} {sg : Signedness} {v : Int} {e : List Byte} (he : encodeValue w sg v = some e)
    (h : Config.Handle) (reg : Byte) (x1 x2 x3 : List Byte) (rest : List Draw) (count : Nat) (le : LastErr) :
    writeLoop h reg w sg v (e ++ [crcOver reg e]) h.maxRetries 0 le
        ⟨.ok x1 :: .ok x2 :: faithfulRead reg e x3 rest, count⟩ =
      { verified := true, attempts := 1, lastErr := le
        events := sentEvents h reg (e ++ [crcOver reg e]) ++ faithfulReadEvents h reg e
        rest := ⟨rest, count⟩ } := by
  obtain ⟨hlen, hdecode⟩ := decodeValue_of_encodeValue he
  obtain ⟨left, hleft⟩ := Nat.exists_eq_add_of_le' h.maxRetries_range.1
  have hattempt : writeAttempt h reg w sg v (e ++ [crcOver reg e]) 0 le
      ⟨.ok x1 :: .ok x2 :: faithfulRead reg e x3 rest, count⟩ =
      { verified := true, attempts := 1, lastErr := le
        events := sentEvents h reg (e ++ [crcOver reg e]) ++ faithfulReadEvents h reg e
        rest := ⟨rest, count⟩ } := by
    rw [writeAttempt_sent rfl rfl (hlen ▸ readLoop_faithful h reg e x3 rest count le)]
    simp only [ReadRun.verdict, hdecode, if_true]
  rw [hleft, writeLoop_succ_verified (by rw [hattempt]), hattempt]

/-! ### The fields of an end state -/

section
variable {s u : State} {c : Code} {r : Word} {v : Bool} {e : LastErr} {k : Nat} {events : List Event}
  {rest : Answers} (h : s.EndsAs u c r v e k events rest)
include h

theorem State.EndsAs.idle : u.busy = false := (congrArg State.busy h :)

theorem State.EndsAs.code : u.code = c := (congrArg State.code h :)

theorem State.EndsAs.result : u.result = r := (congrArg State.result h :)

theorem State.EndsAs.valid : u.valid = v := (congrArg State.valid h :)

theorem State.EndsAs.lastErr : u.lastErr = e := (congrArg State.lastErr h :)

theorem State.EndsAs.attempts : u.attempts = BitVec.ofNat 8 k := (congrArg State.attempts h :)

theorem State.EndsAs.history : u.history = s.history ++ events := (congrArg State.history h :)

theorem State.EndsAs.session : u.session = false := (congrArg State.session h :)

theorem State.EndsAs.schedule : u.schedule = s.schedule := (congrArg State.schedule h :)

theorem State.EndsAs.draws : u.draws = rest.fixed := (congrArg State.draws h :)

end

/-! ### The commands under faithful answers -/

section
variable {s t : State} {w : Width} {sg : Signedness} {reg : Byte} {e : List Byte} (hschedule : s.schedule = [])
  (hsession : s.session = false) (hidle : s.busy = false)
include hschedule hsession hidle

theorem writeCommand_faithful {x1 x2 x3 : List Byte} {rest : List Draw}
    (he : encodeValue w sg s.opnd.toInt = some e)
    (hdraws : s.draws = .ok x1 :: .ok x2 :: faithfulRead reg e x3 rest)
    (h : exec (writeCommand w sg reg) s = .next t) :
    ∃ u, runSteps 8 t = .next u ∧ t.EndsAs u .ok 0 false .none 1
      (sentEvents s.cfg reg (e ++ [crcOver reg e]) ++ faithfulReadEvents s.cfg reg e) ⟨rest, s.drawCount⟩ := by
  cases (exec_writeCommand_encodes reg hidle he).symm.trans h
  have hready : (s.writeStarted w sg reg e).WriteReady := ⟨hschedule, hsession, rfl, rfl, rfl⟩
  have hloop : (s.writeStarted w sg reg e).writeLoopRun s.cfg.maxRetries 0 = _ :=
    (congrArg (fun d => writeLoop s.cfg reg w sg s.opnd.toInt (e ++ [crcOver reg e]) s.cfg.maxRetries 0 .none
      ⟨d, s.drawCount⟩) hdraws).trans (writeLoop_faithful he s.cfg reg x1 x2 x3 rest s.drawCount .none)
  obtain ⟨u, hbus, hrun⟩ := runSteps_writeLoop_start hready hloop
  exact ⟨_, hrun, hbus.endsAs rfl rfl rfl _ _ _⟩

theorem readCommand_faithful {v : Int} {x : List Byte} {rest : List Draw} (he : encodeValue w sg v = some e)
    (hdraws : s.draws = faithfulRead reg e x rest) (h : exec (readCommand w sg reg) s = .next t) :
    ∃ u r, runSteps 4 t = .next u ∧ HoldsValue sg r v ∧ t.EndsAs u .ok r true .none 1
      (faithfulReadEvents s.cfg reg e) ⟨rest, s.drawCount⟩ := by
  obtain ⟨hlen, hdecode⟩ := decodeValue_of_encodeValue he
  obtain ⟨v', r, hv', hr, hholds⟩ := decodeWord_holdsValue (sg := sg) hlen
  cases hv'.symm.trans hdecode
  cases ((exec_readCommand w sg reg s).trans (accept_idle _ hidle)).symm.trans h
  have hloop : (s.cleared.startRead w sg reg).readLoopRun s.cfg.maxRetries 0 =
      readLoop s.cfg reg (payloadBytes w) s.cfg.maxRetries 0 .none ⟨s.draws, s.drawCount⟩ := rfl
  rw [hdraws, ← hlen, readLoop_faithful] at hloop
  obtain ⟨u, r', hrun, hr', hends⟩ := readLoop_accepts (s := s.cleared.startRead w sg reg) (p := e) hschedule
    hsession rfl hloop (show TxnKind.rd ≠ .wr by decide) rfl rfl
  cases hr'.symm.trans hr
  exact ⟨u, r, hrun, hholds, hends⟩

end

/-- Settles O60: both commands run their loops under faithful answers, and the read places the value in `RESULT`. -/
theorem faithfulStore : Obligations.FaithfulStore := by
  intro s t reg w sg e x1 x2 x3 x4 rest hs hidle hschedule he hdraws h
  have hsession : s.session = false := (hs.fresh hidle).session
  obtain ⟨u, hrun, hends⟩ := writeCommand_faithful hschedule hsession hidle he hdraws h
  cases (exec_writeCommand_encodes reg hidle he).symm.trans h
  refine ⟨u, hrun, hends.idle, hends.code, hends.attempts, hends.lastErr, hends.history, fun t' h' => ?_⟩
  obtain ⟨u', r, hrun', ⟨hsigned, hunsigned⟩, hends'⟩ := readCommand_faithful (hends.schedule.trans hschedule)
    hends.session hends.idle he hends.draws h'
  rw [← hends'.result] at hsigned hunsigned
  exact ⟨u', hrun', hends'.idle, hends'.code, hends'.valid, hsigned, hunsigned⟩

end Sys2Proof.Machine
end

section
/-!
PROOFS. Reset: the Host's move on an idle and on a busy block, what it makes of every element, and the history that the
reset state starts with (R21, R45, R182 to R184).
-/

namespace Sys2Proof.Machine

theorem hostStep_reset_idle {s : State} (hidle : s.busy = false) : hostStep .reset s = .next s.resetBlock := by
  simp [hostStep, State.assertReset, hidle]

theorem hostStep_reset_busy {s : State} (hbusy : s.busy = true) :
    hostStep .reset s = .refused .resetWhileBusy :=
  if_pos hbusy

/-- Settles O45, by whether the block is busy: each element of the block after reset is that of the reset state, so it
has the value that R45 gives it there. -/
theorem resetMove : Obligations.ResetMove := by
  refine fun s => ⟨fun hidle => ⟨s.resetBlock, hostStep_reset_idle hidle, ?_⟩, hostStep_reset_busy⟩
  obtain ⟨cmd, opnd, result, status, acc, seqState, tReg, tN, tXok, tVal, tTx, rxbuf, att, ratt, nested, session⟩ :=
    resetValues
  exact ⟨cmd, opnd, result, status, acc, seqState, tReg, tN, tXok, tVal, tTx, rxbuf, att, ratt, nested, session,
    rfl, rfl⟩

theorem phaseOf_nil : phaseOf [] = some .closed := rfl

/-- An empty history is disciplined exactly where the Sequencer works on a closed bus. -/
theorem disciplined_iff_of_history_nil {s : State} (hhistory : s.history = []) :
    s.Disciplined ↔ s.seqState.phase = .closed := by
  rw [State.Disciplined, hhistory, phaseOf_nil, Option.some.injEq, eq_comm]

/-- Settles O49: the history is empty at reset, and `IDLE` works on a closed bus. -/
theorem disciplinedAtReset : Obligations.DisciplinedAtReset :=
  (disciplined_iff_of_history_nil (s := State.reset) rfl).mpr rfl

end Sys2Proof.Machine
end
